-- ==== Sys2Proof/Word.lean ====
section
/-! DEFINITION. The word types of the CWC AEAD core: bytes, 32-bit bus words and 128-bit blocks (spec 00_scope.md R8, R9). -/

namespace Sys2Proof

/-- A byte of a block. -/
abbrev Byte := BitVec 8

/-- A 32-bit word of the host bus, and a command word (R8, R130). -/
abbrev Word := BitVec 32

/-- A 16-byte block, byte 0 most significant: the block `b` as the integer `be(b)` (R9). -/
abbrev Block := BitVec 128

end Sys2Proof
end

