-- ==== Sys2Proof/Syntax.lean ====
section
/-! DEFINITION. The ten commands of the block, one constructor per row of spec/opcode_table.json (30_encoding.md R132). -/

namespace Sys2Proof

/-- A command. The three length-taking commands carry NBYTES as it stands in the command word (R131), in or out of
range: a range error is the command's own BAD_LEN (R133 step 3, R195, R202, R222). -/
inductive Instr where
  /-- 0x00 NOP (R270) -/
  | nop
  /-- 0x01 DERIVE_Z (R160) -/
  | deriveZ
  /-- 0x02 LOAD_Z (R165) -/
  | loadZ
  /-- 0x03 MSG_INIT (R190) -/
  | msgInit
  /-- 0x04 HASH_AAD n (R195) -/
  | hashAad (n : BitVec 5)
  /-- 0x05 HASH_CT n (R202) -/
  | hashCt (n : BitVec 5)
  /-- 0x06 CTR_XOR n (R222) -/
  | ctrXor (n : BitVec 5)
  /-- 0x07 TAG_GEN (R245) -/
  | tagGen
  /-- 0x08 TAG_CHECK (R250) -/
  | tagCheck
  /-- 0x09 CLEAR (R273) -/
  | clear
deriving DecidableEq, Repr

end Sys2Proof
end

