-- ==== Sys2Proof/WellFormed.lean ====
section
/-! DEFINITION. Which commands are well formed: the byte count lies in the opcode's legal range (30_encoding.md R131). -/

namespace Sys2Proof

/-- The legal chunk lengths of HASH_AAD and HASH_CT: 1 to 12 bytes (R131). -/
def chunkLenOk (n : BitVec 5) : Bool := 1 ≤ n.toNat && n.toNat ≤ 12

/-- The legal block lengths of CTR_XOR: 1 to 16 bytes (R131). -/
def blockLenOk (n : BitVec 5) : Bool := 1 ≤ n.toNat && n.toNat ≤ 16

/-- A command whose NBYTES is in its opcode's range (R131). Every other command has no NBYTES to check. -/
def Instr.wf : Instr → Bool
  | .nop => true
  | .deriveZ => true
  | .loadZ => true
  | .msgInit => true
  | .hashAad n => chunkLenOk n
  | .hashCt n => chunkLenOk n
  | .ctrXor n => blockLenOk n
  | .tagGen => true
  | .tagCheck => true
  | .clear => true

end Sys2Proof
end

