-- ==== Sys2Proof/Decode.lean ====
section
/-! DEFINITION. The command word (30_encoding.md R130–R134, R142): its fields, the total decoder with its named errors, and
the encoder. -/

namespace Sys2Proof

/-- The command error codes of 60_exceptions.md R301. -/
inductive CmdError where
  /-- code 1: LCMD[31:13] ≠ 0 -/
  | rsvdBits
  /-- code 2: OP in 0x0A–0xFF -/
  | illegalOp
  /-- code 3: NBYTES outside the opcode's range -/
  | badLen
  /-- code 4: ZVALID = 0 -/
  | noKey
  /-- code 5: a stream-order violation -/
  | order
  /-- code 6: CTR = 0 -/
  | ctrZero
  /-- code 7: a BCE call returned `err` -/
  | bceFail
deriving DecidableEq, Repr

/-- ERRCODE of an error (R301). -/
def CmdError.code : CmdError → BitVec 4
  | .rsvdBits => 1
  | .illegalOp => 2
  | .badLen => 3
  | .noKey => 4
  | .order => 5
  | .ctrZero => 6
  | .bceFail => 7

/-- What the decoder answers: a command of R132, or the error the word ends in. -/
inductive Decoded where
  | cmd (i : Instr)
  | bad (e : CmdError)
deriving DecidableEq, Repr

/-- OP, bits [7:0] (R130). -/
def opField (w : Word) : BitVec 8 := w.extractLsb' 0 8

/-- NBYTES, bits [12:8] (R130). -/
def nbytesField (w : Word) : BitVec 5 := w.extractLsb' 8 5

/-- RSVD, bits [31:13] (R130). -/
def rsvdField (w : Word) : BitVec 19 := w.extractLsb' 13 19

/-- A command that takes no byte count: NBYTES must be 0 (R131). -/
def withoutCount (n : BitVec 5) (i : Instr) : Decoded :=
  if n = 0 then .cmd i else .bad .badLen

/-- The opcode map of R132. A length-taking opcode passes NBYTES on to its command. -/
def decodeOp (op : BitVec 8) (n : BitVec 5) : Decoded :=
  match op.toNat with
  | 0x00 => withoutCount n .nop
  | 0x01 => withoutCount n .deriveZ
  | 0x02 => withoutCount n .loadZ
  | 0x03 => withoutCount n .msgInit
  | 0x04 => .cmd (.hashAad n)
  | 0x05 => .cmd (.hashCt n)
  | 0x06 => .cmd (.ctrXor n)
  | 0x07 => withoutCount n .tagGen
  | 0x08 => withoutCount n .tagCheck
  | 0x09 => withoutCount n .clear
  | _ => .bad .illegalOp

/-- The decoder: RSVD is checked first, then OP, then NBYTES (R133). -/
def decode (w : Word) : Decoded :=
  if rsvdField w ≠ 0 then .bad .rsvdBits else decodeOp (opField w) (nbytesField w)

/-- The OP value of a command (R132). -/
def opcodeOf : Instr → BitVec 8
  | .nop => 0x00
  | .deriveZ => 0x01
  | .loadZ => 0x02
  | .msgInit => 0x03
  | .hashAad _ => 0x04
  | .hashCt _ => 0x05
  | .ctrXor _ => 0x06
  | .tagGen => 0x07
  | .tagCheck => 0x08
  | .clear => 0x09

/-- The NBYTES value of a command: 0 for a command that takes no byte count (R131). -/
def nbytesOf : Instr → BitVec 5
  | .hashAad n => n
  | .hashCt n => n
  | .ctrXor n => n
  | .nop => 0
  | .deriveZ => 0
  | .loadZ => 0
  | .msgInit => 0
  | .tagGen => 0
  | .tagCheck => 0
  | .clear => 0

/-- The command word: RSVD = 0, NBYTES, OP (R130, R142). -/
def encode (i : Instr) : Word := 0#19 ++ nbytesOf i ++ opcodeOf i

/-- The command the decoder reads from a row of spec/opcode_table.json whose bits are `w`. A command is one 32-bit word
(R130), so a row of more than 32 bits is no command (log entry 9). -/
def decodeTableWord (nbits w : Nat) : Option Instr :=
  if nbits ≤ 32 then
    match decode (BitVec.ofNat 32 (w % 2 ^ nbits)) with
    | .cmd i => some i
    | .bad _ => none
  else none

end Sys2Proof
end

