-- ==== Sys2Proof/Config.lean ====
section
/-! DEFINITION. What the spec leaves to the implementation: the external block-cipher engine BCE (20_memory.md R118,
92_eei_decisions.md D7). -/

namespace Sys2Proof

/-- An answer of the block-cipher engine: `ok(y)`, or `err` when it could not encrypt (R118, R119). -/
inductive BceAnswer where
  | ok (y : Block)
  | err
deriving DecidableEq, Repr, Inhabited

/-- The open parameter BCE of R8 and R118. It has no body: nothing can be proved of its values, so a statement about it
holds for every function (log entry 1). -/
opaque Config.bce : Block → BceAnswer

end Sys2Proof
end

