-- ==== Sys2Proof/Machine/State.lean ====
section
/-! DEFINITION. The state of the block (10_state.md R70), its pins and its surroundings as plain data, and the state after
reset (R69). -/

namespace Sys2Proof.Machine

/-- Reasons the machine stops with a fault. There is none: the block never traps (60_exceptions.md, opening paragraph), a
command error is an ordinary commit (R303), and a refused bus access is a response (R104). -/
inductive Fault where
deriving DecidableEq, Repr

/-- Reasons for having no meaning for a command. -/
inductive Refusal where
  /-- Raised by an arm of `exec` for a command that has no meaning yet; safe. No arm raises it now. -/
  | notModelled (mnemonic : String)
deriving DecidableEq, Repr

/-- The host port's response to an access (R31, R100–R104). -/
inductive BusResp where
  /-- h_ready = 0: no access has completed, or the block is held in reset (R350). -/
  | notReady
  /-- A read completed with h_err = 0 and this h_rdata (R101). -/
  | value (rdata : Word)
  /-- A write completed with h_err = 0; the spec states no h_rdata for it (R102, log entry 6). -/
  | written
  /-- The error response: h_err = 1, h_rdata = 0 (R104). -/
  | error
deriving DecidableEq, Repr

/-- One event around the block: who moves next, and how (R30, R112). -/
inductive Input where
  /-- The host reads the word at a byte offset (R101). -/
  | read (off : BitVec 12)
  /-- The host writes a word with these byte-lane strobes (R102, R103). -/
  | write (off : BitVec 12) (wdata : Word) (wstrb : BitVec 4)
  /-- The core has the turn: it completes the latched command if BUSY = 1 (R30, R306). -/
  | core
  /-- The rst_n pin takes this level (R350). -/
  | rst (level : Bool)
  /-- The BCE begins (true) or stops (false) answering requests (R366, log entry 3). -/
  | bce (answers : Bool)
deriving DecidableEq, Repr

/-- The state. The first block of fields is the record R70 gives; the last six are the pins and the surroundings of the
block, the model's own (log entries 1 to 8). -/
structure State where
  /-- STATUS.BUSY: a command is issued and not yet committed (R44). -/
  busy : Bool
  /-- STATUS.ERR: the last committed command ended in an error (R45). -/
  err : Bool
  /-- STATUS.ZVALID: HKEY holds a key (R46). -/
  zvalid : Bool
  /-- STATUS.TAGV: TAG holds a computed tag (R47). -/
  tagv : Bool
  /-- STATUS.AUTH_OK: the last TAG_CHECK matched (R48). -/
  authOk : Bool
  /-- STATUS.AUTH_FAIL: the last TAG_CHECK did not match (R49). -/
  authFail : Bool
  /-- STATUS.CTPHASE: a HASH_CT has committed in this message (R50). -/
  ctphase : Bool
  /-- STATUS.SHORT: the last chunk hashed was shorter than 12 bytes (R51). -/
  short : Bool
  /-- STATUS.ERRCODE (R52, R301). -/
  errcode : BitVec 4
  /-- INTEN.DONE_IE (R53). -/
  doneIe : Bool
  /-- INTEN.ERR_IE (R53). -/
  errIe : Bool
  /-- INTSTAT.DONE (R54). -/
  done : Bool
  /-- INTSTAT.ERRI (R54). -/
  erri : Bool
  /-- NONCE: N[0] in the top byte (R55–R57). -/
  nonce : BitVec 88
  /-- CTR (R58). -/
  ctr : Word
  /-- DATA: D[0] in the top byte (R59). -/
  data : Block
  /-- TAGIN (R60). -/
  tagin : Block
  /-- TAG (R61). -/
  tag : Block
  /-- ACC, the hash accumulator (R62). -/
  acc : Block
  /-- ALEN, bytes of associated data hashed (R63). -/
  alen : BitVec 64
  /-- CLEN, bytes of ciphertext hashed (R64). -/
  clen : BitVec 64
  /-- HKEY, the hash key Z, not readable by the host (R65). -/
  hkey : Block
  /-- LCMD, the latched command word, meaningful while BUSY = 1 (R66). -/
  lcmd : Word
  /-- The rst_n pin: true when released (R31, R350). -/
  rstn : Bool
  /-- The host port's response to the last access (R31). -/
  resp : BusResp
  /-- The blocks the last completed command sent to the BCE, in order (R31, R120; log entry 7). -/
  bceReqs : List Block
  /-- Whether the BCE answers a request now (R366; log entry 3). -/
  bceAnswers : Bool
  /-- Known answers of the BCE, the parameter of R118; no step changes them (log entry 1). -/
  bceTable : List (Block × BceAnswer)
  /-- The coming events, the next one first (R30, R112; log entry 2). -/
  inputs : List Input
deriving DecidableEq, Repr

/-- The state after reset (R69): all registers 0 but CTR = 1. LCMD has no reset value in the spec and is 0 here (log entry
4); the pins and surroundings are at rest (log entry 5). -/
def State.reset : State where
  busy := false
  err := false
  zvalid := false
  tagv := false
  authOk := false
  authFail := false
  ctphase := false
  short := false
  errcode := 0
  doneIe := false
  errIe := false
  done := false
  erri := false
  nonce := 0
  ctr := 1
  data := 0
  tagin := 0
  tag := 0
  acc := 0
  alen := 0
  clen := 0
  hkey := 0
  lcmd := 0
  rstn := true
  resp := .notReady
  bceReqs := []
  bceAnswers := true
  bceTable := []
  inputs := []

end Sys2Proof.Machine
end

