-- ==== Sys2Proof/Machine/Ops.lean ====
section
/-! DEFINITION. The shared operations: issuing a command (60_exceptions.md R305), committing it (R306), committing an error, the
block's one kind of exception (R303), the BCE calls of a command (20_memory.md R118–R120) and reset (70 R350, R351). -/

namespace Sys2Proof.Machine

/-- The BCE function of this run: its known answers, else the open parameter (R118, log entry 1). -/
def State.bce (s : State) (x : Block) : BceAnswer :=
  match s.bceTable.lookup x with
  | some a => a
  | none => Config.bce x

/-- Issue: latch the word, set BUSY, clear ERR and ERRCODE (R305). -/
def State.issue (s : State) (v : Word) : State :=
  { s with lcmd := v, busy := true, err := false, errcode := 0 }

/-- The commit's own part when the command succeeds (R306). -/
def State.commitOk (s : State) : State :=
  { s with busy := false, err := false, errcode := 0, done := true }

/-- The commit of a command error, the block's only exception entry: it writes BUSY, ERR, ERRCODE, DONE and ERRI and nothing
else (R300, R303). Nothing is saved, and there is no return operation (R307). -/
def State.commitError (s : State) (e : CmdError) : State :=
  { s with busy := false, err := true, errcode := e.code, done := true, erri := true }

/-- Record the blocks a command sent to the BCE (R120, log entry 7). -/
def State.noteReqs (s : State) (xs : List Block) : State := { s with bceReqs := xs }

/-- A command that makes no BCE call commits the state `s`, which holds its assignments (R306). -/
def State.finish (s : State) : State := (s.noteReqs []).commitOk

/-- A command refused by checks 1 to 6 of R302 makes no BCE call and commits its error (R302, R303). -/
def State.fail (s : State) (e : CmdError) : State := (s.noteReqs []).commitError e

/-- A command with one BCE call, on block `x`; `k` gives its assignments from the answer. An `err` ends it with BCE_FAIL
(R120). While the BCE does not answer, the command does not complete (R366). -/
def State.viaBce (s : State) (x : Block) (k : Block → State) : State :=
  if s.bceAnswers then
    match s.bce x with
    | .err => (s.noteReqs [x]).commitError .bceFail
    | .ok y => ((k y).noteReqs [x]).commitOk
  else s

/-- A command with two BCE calls, on `x1` and then `x2`. If the first answers `err`, the second is not made (R120, R245). -/
def State.viaBce2 (s : State) (x1 x2 : Block) (k : Block → Block → State) : State :=
  if s.bceAnswers then
    match s.bce x1 with
    | .err => (s.noteReqs [x1]).commitError .bceFail
    | .ok y1 =>
      match s.bce x2 with
      | .err => (s.noteReqs [x1, x2]).commitError .bceFail
      | .ok y2 => ((k y1 y2).noteReqs [x1, x2]).commitOk
  else s

/-- The reset of the block's registers (R69): the surroundings (the BCE, the coming events) are not the block's and stay
(R351, log entry 8). -/
def State.resetRegs (s : State) : State :=
  { State.reset with
    rstn := s.rstn, bceAnswers := s.bceAnswers, bceTable := s.bceTable, inputs := s.inputs }

/-- The rst_n pin takes a level. Low resets the block at once and abandons a command in progress; high only releases it
(R350, R351, log entry 8). -/
def State.setReset (s : State) (level : Bool) : State :=
  if level then { s with rstn := true } else { s.resetRegs with rstn := false }

end Sys2Proof.Machine
end

