-- ==== Sys2Proof/Machine/Control.lean ====
section
/-! DEFINITION. The control commands NOP and CLEAR (44_control.md). -/

namespace Sys2Proof.Machine

/-- NOP: nothing but the commit (R270). -/
def execNop (s : State) : Host.Outcome State Fault Refusal :=
  .next s.finish

/-- CLEAR's assignments (R273): keys, operands, results and flags erased; INTEN and INTSTAT stay. -/
def State.erase (s : State) : State :=
  { s with
    hkey := 0, zvalid := false, acc := 0, alen := 0, clen := 0, ctr := 1,
    nonce := 0, data := 0, tagin := 0, tag := 0,
    tagv := false, authOk := false, authFail := false, ctphase := false, short := false }

/-- CLEAR (R273). -/
def execClear (s : State) : Host.Outcome State Fault Refusal :=
  .next s.erase.finish

end Sys2Proof.Machine
end

