-- ==== Sys2Proof/Machine/Operands.lean ====
section
/-! DEFINITION. Operand assembly: bytes and words of a block, and the four block layouts the commands form (10_state.md R37;
30_encoding.md R135–R138; 00_scope.md R9). -/

namespace Sys2Proof.Machine

/-- Byte i of a block, byte 0 the most significant (R9). -/
def byte (b : Block) (i : Nat) : Byte := b.extractLsb' (8 * (15 - i)) 8

/-- The block whose byte i is `f i`, for i = 0 to 15 (R9). -/
def ofBytes (f : Nat → Byte) : Block :=
  f 0 ++ f 1 ++ f 2 ++ f 3 ++ f 4 ++ f 5 ++ f 6 ++ f 7 ++
  f 8 ++ f 9 ++ f 10 ++ f 11 ++ f 12 ++ f 13 ++ f 14 ++ f 15

/-- Word k of a block, for k = 0 to 3: bits [127−32k : 96−32k] (R37). -/
def blockWord (b : Block) (k : Nat) : Word := b.extractLsb' (32 * (3 - k)) 32

/-- The block with word k replaced, for k = 0 to 3: its bytes 4k to 4k+3 come from v, v[31:24] first (R102). -/
def setBlockWord (b : Block) (k : Nat) (v : Word) : Block :=
  ofBytes fun i => if i / 4 = k then v.extractLsb' (8 * (3 - i % 4)) 8 else byte b i

/-- NONCE word k as the bus shows it: N[0..3], N[4..7], and N[8..10] with eight zero bits below (R55–R57). -/
def nonceWord (n : BitVec 88) (k : Nat) : Word :=
  match k with
  | 0 => n.extractLsb' 56 32
  | 1 => n.extractLsb' 24 32
  | _ => n.extractLsb' 0 24 ++ 0#8

/-- NONCE with word k replaced; bits [7:0] of the last word are ignored (R57, R102). -/
def setNonceWord (n : BitVec 88) (k : Nat) (v : Word) : BitVec 88 :=
  match k with
  | 0 => v ++ n.extractLsb' 0 56
  | 1 => n.extractLsb' 56 32 ++ v ++ n.extractLsb' 0 24
  | _ => n.extractLsb' 24 64 ++ v.extractLsb' 8 24

/-- `clr127`: the block with bit 127 cleared, v mod 2^127 (R12). -/
def clr127 (b : Block) : Block := (b.extractLsb' 0 127).setWidth 128

/-- The chunk word Wb: four zero bytes, the first n bytes of DATA, zeros to the end (R135). -/
def chunkWord (d : Block) (n : Nat) : Block :=
  ofBytes fun i => if i < 4 then 0 else if i - 4 < n then byte d (i - 4) else 0

/-- The counter block CB(C): 80, the eleven nonce bytes, the counter big-endian (R136). -/
def counterBlock (n : BitVec 88) (c : Word) : Block := 0x80#8 ++ n ++ c

/-- The key-derivation block KB: C0 and fifteen zero bytes (R137). -/
def keyBlock : Block := 0xC0000000000000000000000000000000#128

/-- The length field: ALEN in the high 64 bits, CLEN in the low 64 (R138). -/
def lengthField (alen clen : BitVec 64) : Block := alen ++ clen

/-- The sixteen byte lanes of CTR_XOR: lane i is D[i] ⊕ K[i] when i < n, and D[i] otherwise (R222, R223). -/
def xorLanes (d k : Block) (n : Nat) : Block :=
  ofBytes fun i => if i < n then byte d i ^^^ byte k i else byte d i

end Sys2Proof.Machine
end

