-- ==== Sys2Proof/Machine/CounterMode.lean ====
section
/-! DEFINITION. The counter-mode command CTR_XOR (42_counter_mode.md). -/

namespace Sys2Proof.Machine

/-- CTR_XOR's assignments from the keystream block: the first n lanes of DATA, and CTR plus 1 modulo 2^32 (R222, R223,
R225). -/
def State.xorKeystream (s : State) (n : BitVec 5) (k : Block) : State :=
  { s with data := xorLanes s.data k n.toNat, ctr := s.ctr + 1 }

/-- CTR_XOR n (R222): BAD_LEN, then CTR_ZERO, both before the BCE call (R224, R302). -/
def execCtrXor (n : BitVec 5) (s : State) : Host.Outcome State Fault Refusal :=
  .next <|
    if !blockLenOk n then s.fail .badLen
    else if s.ctr = 0 then s.fail .ctrZero
    else s.viaBce (counterBlock s.nonce s.ctr) fun k => s.xorKeystream n k

end Sys2Proof.Machine
end

