-- ==== Sys2Proof/Machine/KeyDerivation.lean ====
section
/-! DEFINITION. The key derivation commands DERIVE_Z and LOAD_Z (40_key_derivation.md). -/

namespace Sys2Proof.Machine

/-- HKEY takes `clr127` of a block, and ZVALID is set (R160, R165). -/
def State.loadKey (s : State) (b : Block) : State := { s with hkey := clr127 b, zvalid := true }

/-- DERIVE_Z: the key is the BCE's answer to KB, bit 127 cleared (R160). -/
def execDeriveZ (s : State) : Host.Outcome State Fault Refusal :=
  .next (s.viaBce keyBlock fun y => s.loadKey y)

/-- LOAD_Z: the key is DATA, bit 127 cleared (R165). -/
def execLoadZ (s : State) : Host.Outcome State Fault Refusal :=
  .next (s.loadKey s.data).finish

end Sys2Proof.Machine
end

