-- ==== Sys2Proof/Machine/Flags.lean ====
section
/-! DEFINITION. The flag words and flag computations: STATUS, INTEN, INTSTAT and irq as the host sees them (10_state.md R43,
R53, R54, R67), and the tag comparison (43_tag_assembly.md R250). -/

namespace Sys2Proof.Machine

/-- The STATUS word: ERRCODE [11:8] and the eight flags, bit 0 BUSY, bits [31:12] zero (R43). -/
def State.statusWord (s : State) : Word :=
  0#20 ++ s.errcode ++ BitVec.ofBool s.short ++ BitVec.ofBool s.ctphase ++ BitVec.ofBool s.authFail ++
  BitVec.ofBool s.authOk ++ BitVec.ofBool s.tagv ++ BitVec.ofBool s.zvalid ++ BitVec.ofBool s.err ++
  BitVec.ofBool s.busy

/-- The INTEN word: DONE_IE in bit 0, ERR_IE in bit 1 (R53). -/
def State.intenWord (s : State) : Word := 0#30 ++ BitVec.ofBool s.errIe ++ BitVec.ofBool s.doneIe

/-- The INTSTAT word: DONE in bit 0, ERRI in bit 1 (R54). -/
def State.intstatWord (s : State) : Word := 0#30 ++ BitVec.ofBool s.erri ++ BitVec.ofBool s.done

/-- The irq output, a level (R67, R320). -/
def State.irq (s : State) : Bool := (s.done && s.doneIe) || (s.erri && s.errIe)

/-- The difference of two tags: the OR of the byte differences over all 16 bytes, no early exit (R250). -/
def tagDiff (t u : Block) : Byte :=
  (List.range 16).foldl (fun diff i => diff ||| (byte t i ^^^ byte u i)) 0

end Sys2Proof.Machine
end

