-- ==== Sys2Proof/Machine/TagAssembly.lean ====
section
/-! DEFINITION. The tag commands TAG_GEN and TAG_CHECK (43_tag_assembly.md). -/

namespace Sys2Proof.Machine

/-- S, the block the first BCE call encrypts: ACC plus the length field modulo 2^128 (R240, R241). -/
def State.tagSum (s : State) : Block := s.acc + lengthField s.alen s.clen

/-- The mask block CB(0), which the second BCE call encrypts (R242). -/
def State.maskBlock (s : State) : Block := counterBlock s.nonce 0

/-- TAG_GEN's assignments from the two answers (R245). -/
def State.putTag (s : State) (r1 r2 : Block) : State :=
  { s with tag := r1 ^^^ r2, tagv := true, authOk := false, authFail := false }

/-- TAG_CHECK's assignments from the two answers: the tag, the verdict, and DATA zeroed on a mismatch (R250, R252). -/
def State.judgeTag (s : State) (r1 r2 : Block) : State :=
  let t := s.putTag r1 r2
  if tagDiff t.tag s.tagin = 0 then { t with authOk := true }
  else { t with authFail := true, data := 0 }

/-- TAG_GEN (R245). -/
def execTagGen (s : State) : Host.Outcome State Fault Refusal :=
  .next (s.viaBce2 s.tagSum s.maskBlock fun r1 r2 => s.putTag r1 r2)

/-- TAG_CHECK (R250). -/
def execTagCheck (s : State) : Host.Outcome State Fault Refusal :=
  .next (s.viaBce2 s.tagSum s.maskBlock fun r1 r2 => s.judgeTag r1 r2)

end Sys2Proof.Machine
end

