-- ==== Sys2Proof/Machine/Arith.lean ====
section
/-! DEFINITION. The modulo 2^127 − 1 datapath: the Mersenne fold, the addition step, the product fold and one hash step
(41_universal_hash.md R180–R185; 90_conflicts.md C2). -/

namespace Sys2Proof.Machine

/-- The modulus p = 2^127 − 1 (R12). -/
def modulusP : Nat := 2 ^ 127 - 1

/-- p as a 128-bit value. -/
def pBlock : Block := 0x7FFFFFFFFFFFFFFFFFFFFFFFFFFFFFFF#128

/-- The Mersenne fold of a 128-bit value: its low 127 bits plus its top bit (R181). -/
def mersenneFold (s : Block) : Block :=
  (s.extractLsb' 0 127).setWidth 128 + (s.extractLsb' 127 1).setWidth 128

/-- The conditional subtract of p that makes a folded value canonical (R181, R183). -/
def condSubP (t : Block) : Block := if pBlock ≤ t then t - pBlock else t

/-- The addition step `addfold(a, w)` (R181). -/
def addfold (a w : Block) : Block := condSubP (mersenneFold (a + w))

/-- The full 256-bit product (R182). -/
def product (a z : Block) : BitVec 256 := a.setWidth 256 * z.setWidth 256

/-- The product fold `mulmod(a, z)`: two folds and the conditional subtract (R183). -/
def mulmod (a z : Block) : Block :=
  let x := product a z
  let t1 : Block := (x.extractLsb' 0 127).setWidth 128 + (x.extractLsb' 127 127).setWidth 128
  condSubP (mersenneFold t1)

/-- One hash step `hstep(a, w, z)` (R185). -/
def hstep (a w z : Block) : Block := mulmod (addfold a w) z

end Sys2Proof.Machine
end

