-- ==== Sys2Proof/Machine/UniversalHash.lean ====
section
/-! DEFINITION. The universal hash commands MSG_INIT, HASH_AAD and HASH_CT (41_universal_hash.md). -/

namespace Sys2Proof.Machine

/-- MSG_INIT's assignments (R190): a new message; HKEY, ZVALID, NONCE, DATA and TAGIN stay. -/
def State.startMessage (s : State) : State :=
  { s with
    acc := 0, alen := 0, clen := 0, ctr := 1, tag := 0,
    tagv := false, authOk := false, authFail := false, ctphase := false, short := false }

/-- MSG_INIT (R190). -/
def execMsgInit (s : State) : Host.Outcome State Fault Refusal :=
  .next s.startMessage.finish

/-- One chunk absorbed: ACC takes one hash step with the chunk word of the first n bytes of DATA, and SHORT says whether the
chunk was short (R195, R202). -/
def State.absorb (s : State) (n : BitVec 5) : State :=
  { s with acc := hstep s.acc (chunkWord s.data n.toNat) s.hkey, short := decide (n.toNat < 12) }

/-- HASH_AAD n (R195): BAD_LEN, NO_KEY and ORDER in this order (R302), else one chunk of associated data. -/
def execHashAad (n : BitVec 5) (s : State) : Host.Outcome State Fault Refusal :=
  .next <|
    if !chunkLenOk n then s.fail .badLen
    else if !s.zvalid then s.fail .noKey
    else if s.ctphase || s.short then s.fail .order
    else { s.absorb n with alen := s.alen + n.setWidth 64 }.finish

/-- HASH_CT n (R202): BAD_LEN, NO_KEY and ORDER in this order (R302), else one chunk of ciphertext. -/
def execHashCt (n : BitVec 5) (s : State) : Host.Outcome State Fault Refusal :=
  .next <|
    if !chunkLenOk n then s.fail .badLen
    else if !s.zvalid then s.fail .noKey
    else if s.ctphase && s.short then s.fail .order
    else { s.absorb n with clen := s.clen + n.setWidth 64, ctphase := true }.finish

end Sys2Proof.Machine
end

