-- ==== Sys2Proof/Machine/Dispatch.lean ====
section
/-! DEFINITION. One arm per command: the meaning of each (30_encoding.md R132). -/

namespace Sys2Proof.Machine

def exec (i : Instr) (s : State) : Host.Outcome State Fault Refusal :=
  match i with
  | .nop => Sys2Proof.Machine.execNop s
  | .deriveZ => Sys2Proof.Machine.execDeriveZ s
  | .loadZ => Sys2Proof.Machine.execLoadZ s
  | .msgInit => Sys2Proof.Machine.execMsgInit s
  | .hashAad n => Sys2Proof.Machine.execHashAad n s
  | .hashCt n => Sys2Proof.Machine.execHashCt n s
  | .ctrXor n => Sys2Proof.Machine.execCtrXor n s
  | .tagGen => Sys2Proof.Machine.execTagGen s
  | .tagCheck => Sys2Proof.Machine.execTagCheck s
  | .clear => Sys2Proof.Machine.execClear s

end Sys2Proof.Machine
end

