-- ==== Sys2Proof/Machine/Window.lean ====
section
/-! DEFINITION. The host register window: the register map (10_state.md R36), reads and writes (20_memory.md R101–R106) and the
refused accesses (R104). -/

namespace Sys2Proof.Machine

/-- A register word of the window; `k` numbers the words of a multi-word register from its base offset (R36, R37). -/
inductive Reg where
  | id
  | param
  | cmd
  | status
  | inten
  | intstat
  | nonce (k : Fin 3)
  | ctr
  | data (k : Fin 4)
  | tagin (k : Fin 4)
  | tag (k : Fin 4)
  | acc (k : Fin 4)
  | alenHi
  | alenLo
  | clenHi
  | clenLo
deriving DecidableEq, Repr

/-- The register map, first half: identity, control and operands (R36). -/
def operandMap : List (BitVec 12 × Reg) :=
  [(0x000, .id), (0x004, .param), (0x008, .cmd), (0x00C, .status), (0x010, .inten), (0x014, .intstat),
   (0x020, .nonce 0), (0x024, .nonce 1), (0x028, .nonce 2), (0x02C, .ctr),
   (0x030, .data 0), (0x034, .data 1), (0x038, .data 2), (0x03C, .data 3),
   (0x040, .tagin 0), (0x044, .tagin 1), (0x048, .tagin 2), (0x04C, .tagin 3)]

/-- The register map, second half: results (R36). -/
def resultMap : List (BitVec 12 × Reg) :=
  [(0x050, .tag 0), (0x054, .tag 1), (0x058, .tag 2), (0x05C, .tag 3),
   (0x060, .acc 0), (0x064, .acc 1), (0x068, .acc 2), (0x06C, .acc 3),
   (0x070, .alenHi), (0x074, .alenLo), (0x078, .clenHi), (0x07C, .clenLo)]

/-- The register at a byte offset; none at a reserved offset, the misaligned ones among them (R36, R38). -/
def regAt (off : BitVec 12) : Option Reg := (operandMap ++ resultMap).lookup off

/-- The registers a write to which is refused: ID, PARAM, STATUS, TAG, ACC, ALEN and CLEN (R35, R39, R104 item 3). -/
def Reg.readOnly : Reg → Bool
  | .id => true
  | .param => true
  | .cmd => false
  | .status => true
  | .inten => false
  | .intstat => false
  | .nonce _ => false
  | .ctr => false
  | .data _ => false
  | .tagin _ => false
  | .tag _ => true
  | .acc _ => true
  | .alenHi => true
  | .alenLo => true
  | .clenHi => true
  | .clenLo => true

/-- The registers that are write-locked while BUSY = 1: CMD and the operands (R104 item 5, R105). -/
def Reg.busyLocked : Reg → Bool
  | .id => false
  | .param => false
  | .cmd => true
  | .status => false
  | .inten => false
  | .intstat => false
  | .nonce _ => true
  | .ctr => true
  | .data _ => true
  | .tagin _ => true
  | .tag _ => false
  | .acc _ => false
  | .alenHi => false
  | .alenLo => false
  | .clenHi => false
  | .clenLo => false

/-- What a read of a register returns (R37, R40–R64). CMD reads 0 (R42). -/
def State.view (s : State) : Reg → Word
  | .id => 0x43574331
  | .param => 0x0C100B10
  | .cmd => 0
  | .status => s.statusWord
  | .inten => s.intenWord
  | .intstat => s.intstatWord
  | .nonce k => nonceWord s.nonce k
  | .ctr => s.ctr
  | .data k => blockWord s.data k
  | .tagin k => blockWord s.tagin k
  | .tag k => blockWord s.tag k
  | .acc k => blockWord s.acc k
  | .alenHi => s.alen.extractLsb' 32 32
  | .alenLo => s.alen.extractLsb' 0 32
  | .clenHi => s.clen.extractLsb' 32 32
  | .clenLo => s.clen.extractLsb' 0 32

/-- What an accepted write to a register does (R102). The registers that refuse writes keep the state. -/
def State.store (s : State) (r : Reg) (v : Word) : State :=
  match r with
  | .cmd => s.issue v
  | .inten => { s with doneIe := v.getLsbD 0, errIe := v.getLsbD 1 }
  | .intstat => { s with done := s.done && !v.getLsbD 0, erri := s.erri && !v.getLsbD 1 }
  | .nonce k => { s with nonce := setNonceWord s.nonce k v }
  | .ctr => { s with ctr := v }
  | .data k => { s with data := setBlockWord s.data k v }
  | .tagin k => { s with tagin := setBlockWord s.tagin k v }
  | .id => s
  | .param => s
  | .status => s
  | .tag _ => s
  | .acc _ => s
  | .alenHi => s
  | .alenLo => s
  | .clenHi => s
  | .clenLo => s

/-- `RegRead(off)`: the response; a read changes no register (R101, R104 items 1 and 2, R106). -/
def State.regRead (s : State) (off : BitVec 12) : BusResp :=
  match regAt off with
  | some r => .value (s.view r)
  | none => .error

/-- Whether a write to a register is refused: read-only, a strobe other than 1111, or locked while BUSY = 1 (R104 items 3, 4
and 5). -/
def State.writeRefused (s : State) (r : Reg) (strb : BitVec 4) : Bool :=
  r.readOnly || strb != 0b1111#4 || (s.busy && r.busyLocked)

/-- `RegWrite(off, v)`: the state after it, and the response (R102, R104). -/
def State.regWrite (s : State) (off : BitVec 12) (v : Word) (strb : BitVec 4) : State × BusResp :=
  match regAt off with
  | some r => if s.writeRefused r strb then (s, .error) else (s.store r v, .written)
  | none => (s, .error)

/-- A host read as a step of the host agent: nothing changes but the port's response. In reset no access is accepted
(R100, R350). -/
def State.hostRead (s : State) (off : BitVec 12) : State :=
  if s.rstn then { s with resp := s.regRead off } else { s with resp := .notReady }

/-- A host write as a step of the host agent (R100, R102, R350). -/
def State.hostWrite (s : State) (off : BitVec 12) (v : Word) (strb : BitVec 4) : State :=
  if s.rstn then
    let r := s.regWrite off v strb
    { r.1 with resp := r.2 }
  else { s with resp := .notReady }

end Sys2Proof.Machine
end

