-- ==== Sys2Proof/Machine/Agents.lean ====
section
/-! DEFINITION. The moves of the agents (10_state.md R30): the core's complete step, and each event around the block. -/

namespace Sys2Proof.Machine

/-- The core's turn. The complete step is enabled exactly when BUSY = 1, and never while rst_n is low (R30, R306, R350): it
decodes LCMD (R133) and runs the command, or commits the decoding error. When it is not enabled, nothing moves. -/
def coreTurn (s : State) : Host.Outcome State Fault Refusal :=
  if s.rstn && s.busy then
    match decode s.lcmd with
    | .cmd i => exec i s
    | .bad e => .next (s.fail e)
  else .next s

/-- The state after one event. -/
def takeInput (e : Input) (s : State) : Host.Outcome State Fault Refusal :=
  match e with
  | .read off => .next (s.hostRead off)
  | .write off v strb => .next (s.hostWrite off v strb)
  | .core => coreTurn s
  | .rst level => .next (s.setReset level)
  | .bce answers => .next { s with bceAnswers := answers }

/-- One move: the next event, or the core's turn when no event is waiting (R112, R366; log entry 2). -/
def move (s : State) : Host.Outcome State Fault Refusal :=
  match s.inputs with
  | [] => coreTurn s
  | e :: rest => takeInput e { s with inputs := rest }

/-- The command word issued, the reset pin released, and the core's turn put next: the state in which the very next move runs
the word (R305, R306; log entry 9). -/
def placeCommand (s : State) (w : Word) : State :=
  { s.issue w with rstn := true, inputs := .core :: s.inputs }

end Sys2Proof.Machine
end

