-- ==== Sys2Proof/Machine/Step.lean ====
section
/-! DEFINITION. One step of the machine: one event of the total order of host accesses and core commits (20_memory.md R112). -/

namespace Sys2Proof.Machine

/-- One step. -/
def step (s : State) : Host.Outcome State Fault Refusal := move s

/-- The state with the command whose bits are `w` latched, so that the next step runs it. A command is one 32-bit word; the
bits from `nbits` up are 0 (log entry 9). -/
def State.withFetchWord (s : State) (nbits w : Nat) : State :=
  placeCommand s (BitVec.ofNat 32 (w % 2 ^ nbits))

end Sys2Proof.Machine
end

