-- ==== Sys2Proof/Safety.lean ====
section
/-! DEFINITION. The terms the statements are written in: the two forms of a commit, the checks and BCE calls of a command, the
invariant of the block, and the host's hashing of a whole message. -/

namespace Sys2Proof.Machine

/-- The commit of a command that succeeds, over its assignments `t`: what R306 writes; `reqs` are its BCE calls. -/
def State.committed (t : State) (reqs : List Block) : State :=
  { t with busy := false, err := false, errcode := 0, done := true, bceReqs := reqs }

/-- The commit of a command that fails with a code: what R303 writes; `reqs` are the BCE calls it made. -/
def State.failedWith (s : State) (code : BitVec 4) (reqs : List Block) : State :=
  { s with busy := false, err := true, errcode := code, done := true, erri := true, bceReqs := reqs }

/-- OP, NBYTES and RSVD of a command word as numbers (R130). -/
def opNat (w : Word) : Nat := w.toNat % 256
def nbytesNat (w : Word) : Nat := w.toNat / 256 % 32
def rsvdNat (w : Word) : Nat := w.toNat / 8192

/-- NBYTES lies in the range of a defined opcode (R131). -/
def lengthInRange (op n : Nat) : Bool :=
  if op = 4 || op = 5 then decide (1 ≤ n ∧ n ≤ 12)
  else if op = 6 then decide (1 ≤ n ∧ n ≤ 16)
  else n == 0

/-- Every word with this OP either ends in RSVD_BITS or BAD_LEN or is the command `i`, which takes no byte count
(R131, R133). -/
def takesNoCount (op : Nat) (i : Instr) : Prop :=
  ∀ w : Word, opNat w = op →
    decode w = if rsvdNat w ≠ 0 then .bad .rsvdBits else if nbytesNat w ≠ 0 then .bad .badLen else .cmd i

/-- Every word with this OP either ends in RSVD_BITS or is the command `mk n` with n = NBYTES (R131, R133); at a byte count outside
R131's range the command commits BAD_LEN itself (log entry 14). -/
def takesCount (op : Nat) (mk : BitVec 5 → Instr) : Prop :=
  ∀ w : Word, opNat w = op →
    decode w = if rsvdNat w ≠ 0 then .bad .rsvdBits else .cmd (mk (BitVec.ofNat 5 (nbytesNat w)))

/-- The blocks a command sends to the BCE, in order, when every call is answered (R120, R132). -/
def bceCalls (i : Instr) (s : State) : List Block :=
  match i with
  | .nop => []
  | .deriveZ => [keyBlock]
  | .loadZ => []
  | .msgInit => []
  | .hashAad _ => []
  | .hashCt _ => []
  | .ctrXor _ => [counterBlock s.nonce s.ctr]
  | .tagGen => [s.tagSum, counterBlock s.nonce 0]
  | .tagCheck => [s.tagSum, counterBlock s.nonce 0]
  | .clear => []

/-- The state checks 3 to 6 of R302 that a decoded command fails first, if any. -/
def refusedBy (i : Instr) (s : State) : Option CmdError :=
  match i with
  | .hashAad n =>
    if !lengthInRange 4 n.toNat then some .badLen else if !s.zvalid then some .noKey
    else if s.ctphase || s.short then some .order else none
  | .hashCt n =>
    if !lengthInRange 5 n.toNat then some .badLen else if !s.zvalid then some .noKey
    else if s.ctphase && s.short then some .order else none
  | .ctrXor n =>
    if !lengthInRange 6 n.toNat then some .badLen else if s.ctr = 0 then some .ctrZero else none
  | .nop => none
  | .deriveZ => none
  | .loadZ => none
  | .msgInit => none
  | .tagGen => none
  | .tagCheck => none
  | .clear => none

/-- The invariant of the block. ACC is a canonical residue (R72) and HKEY below 2^127 (R71); AUTH_OK and AUTH_FAIL exclude
each other (R49) and stand only beside TAGV (R250); ERRCODE is at most 7 (R52), ERR says it is not 0 (R303, R305, R306) and
BUSY excludes ERR (R305); with no key nothing is hashed (R46, R273); without TAGV the tag is 0 (R61); before the first HASH_CT
no ciphertext is counted (R50, R64). -/
abbrev State.Inv (s : State) : Prop :=
  s.acc.toNat ≤ modulusP - 1 ∧ s.hkey.toNat < 2 ^ 127 ∧
  ¬(s.authOk = true ∧ s.authFail = true) ∧ (s.authOk = true ∨ s.authFail = true → s.tagv = true) ∧
  s.errcode.toNat ≤ 7 ∧ (s.err = true ↔ s.errcode ≠ 0) ∧ (s.busy = true → s.err = false) ∧
  (s.zvalid = false → s.hkey = 0 ∧ s.acc = 0 ∧ s.alen = 0 ∧ s.clen = 0 ∧ s.ctphase = false ∧ s.short = false) ∧
  (s.tagv = false → s.tag = 0) ∧ (s.ctphase = false → s.clen = 0)

/-- The core waits on the BCE: a command that passes its checks and needs the BCE is latched, and the BCE does not answer
(R366). -/
abbrev State.AwaitsBce (s : State) : Prop :=
  s.rstn = true ∧ s.busy = true ∧ s.bceAnswers = false ∧
  ∃ i, decode s.lcmd = .cmd i ∧ refusedBy i s = none ∧ bceCalls i s ≠ []

/-- A reserved byte offset of the window (R38). -/
def offsetReserved (o : Nat) : Bool := o % 4 != 0 || o == 0x018 || o == 0x01C || decide (0x080 ≤ o)

/-- The offset of a read-only register (R36, R104 item 3). -/
def offsetReadOnly (o : Nat) : Bool :=
  o == 0x000 || o == 0x004 || o == 0x00C || (decide (0x050 ≤ o) && decide (o < 0x080))

/-- The offset of CMD or of an operand register (R36, R104 item 5). -/
def offsetBusyLocked (o : Nat) : Bool := o == 0x008 || (decide (0x020 ≤ o) && decide (o < 0x050))

/-- Run `f` on the next state of an outcome. -/
def andThen (o : Host.Outcome State Fault Refusal) (f : State → Host.Outcome State Fault Refusal) :
    Host.Outcome State Fault Refusal :=
  match o with
  | .next t => f t
  | .fault r => .fault r
  | .refused r => .refused r

/-- A byte string cut into chunks of 12 bytes, the last one perhaps shorter; `fuel` bounds the number of chunks (R205). -/
def chunksOf : Nat → List Byte → List (List Byte)
  | 0, _ => []
  | _ + 1, [] => []
  | fuel + 1, b :: bs => (b :: bs).take 12 :: chunksOf fuel ((b :: bs).drop 12)

/-- The 12-byte chunks of a byte string. -/
def streamChunks (bs : List Byte) : List (List Byte) := chunksOf bs.length bs

/-- DATA holding the bytes of a chunk first and zeros after them (R281). -/
def dataOf (c : List Byte) : Block := ofBytes fun i => c.getD i 0

/-- The integer of a chunk's embedding, byte i of the chunk at bit 8·(11−i) (R135). -/
def chunkNat : List Byte → Nat → Nat
  | [], _ => 0
  | b :: bs, i => b.toNat * 2 ^ (8 * (11 - i)) + chunkNat bs (i + 1)

/-- The chunk word of DATA's first n bytes as an integer (R135). -/
def dataChunkNat (d : Block) (n : Nat) : Nat := chunkNat ((List.range n).map (byte d)) 0

/-- Σ W_i · z^(k−i+1) over the list W_1, …, W_k (R186). -/
def polySum (z : Nat) : List Nat → Nat
  | [] => 0
  | w :: ws => w * z ^ (ws.length + 1) + polySum z ws

/-- Hash the chunks of one stream with HASH_AAD or HASH_CT, DATA loaded with each chunk before its command (R281). -/
def hashStream (mk : BitVec 5 → Instr) : List (List Byte) → State → Host.Outcome State Fault Refusal
  | [], s => .next s
  | c :: cs, s => andThen (exec (mk (BitVec.ofNat 5 c.length)) { s with data := dataOf c }) (hashStream mk cs)

/-- MSG_INIT, then the associated data `a`, then the ciphertext `c` (R205, R281). -/
def hashMessage (a c : List Byte) (s : State) : Host.Outcome State Fault Refusal :=
  andThen (exec .msgInit s) fun s0 =>
    andThen (hashStream .hashAad (streamChunks a) s0) (hashStream .hashCt (streamChunks c))

/-- The universal hash of associated data `a` and ciphertext `c` under the key z (R186, R205). -/
def messageHash (z : Nat) (a c : List Byte) : Nat :=
  polySum z ((streamChunks a ++ streamChunks c).map fun ch => chunkNat ch 0) % modulusP

end Sys2Proof.Machine
end

