-- ==== Sys2Proof/Certificates/Slice0/Obligations.lean ====
section
/-! DEFINITION. The statements for the provers, each a rule of spec/ or a consequence of the rules it names. -/

open Sys2Proof Sys2Proof.Machine

/-! ## Encoding (30_encoding.md) -/

/-- The command words of R142's table, each written out from the spec, decode to their commands. -/
def Obligations.TableWordsDecode : Prop :=
  decode 0x00000000 = .cmd .nop ∧ decode 0x00000001 = .cmd .deriveZ ∧ decode 0x00000002 = .cmd .loadZ ∧
  decode 0x00000003 = .cmd .msgInit ∧ decode 0x00000104 = .cmd (.hashAad 1) ∧ decode 0x00000C04 = .cmd (.hashAad 12) ∧
  decode 0x00000105 = .cmd (.hashCt 1) ∧ decode 0x00000805 = .cmd (.hashCt 8) ∧ decode 0x00000C05 = .cmd (.hashCt 12) ∧
  decode 0x00000106 = .cmd (.ctrXor 1) ∧ decode 0x00000806 = .cmd (.ctrXor 8) ∧ decode 0x00001006 = .cmd (.ctrXor 16) ∧
  decode 0x00000007 = .cmd .tagGen ∧ decode 0x00000008 = .cmd .tagCheck ∧ decode 0x00000009 = .cmd .clear

/-- Decoding an encoded command gives the command back, at every value of its byte count (R130–R132). For HASH_AAD, HASH_CT and
CTR_XOR with a byte count outside R131's range (hashAad 13, the word 0x00000D04) this is the model's choice (log entry 14, DEDUCED):
R133 step 3 refuses such a word at decoding, while the model decodes it and the command itself commits BAD_LEN. -/
def Obligations.DecodeOfEncode : Prop := ∀ i : Instr, decode (encode i) = .cmd i

/-- The decoder accepts exactly the words NBYTES·0x100 + OP of the commands of R132, so each command has one word. For HASH_AAD,
HASH_CT and CTR_XOR the model's decoder accepts every NBYTES, those outside R131's range too (0x00000004, 0x00000D04), which R142
does not list and R133 step 3 refuses: the command itself then commits BAD_LEN. Where BAD_LEN is raised is the model's choice
(log entry 14, DEDUCED). -/
def Obligations.AcceptedWordsAreCommandWords : Prop :=
  ∀ (w : Word) (i : Instr), decode w = .cmd i ↔ w.toNat = (nbytesOf i).toNat * 0x100 + (opcodeOf i).toNat

/-- Decoding checks RSVD, then OP, then a byte count that must be 0, and is total (R133 steps 1 and 2, and step 3 for the commands
without a byte count). The model's choice (log entry 14, DEDUCED): a word with OP 4 to 6 decodes to its command at every NBYTES,
where R133 step 3 has BAD_LEN at decoding; the command commits that BAD_LEN itself, as ByteCountRange states. -/
def Obligations.DecodeChecksInOrder : Prop :=
  ∀ w : Word,
    (rsvdNat w ≠ 0 → decode w = .bad .rsvdBits) ∧
    (rsvdNat w = 0 → 10 ≤ opNat w → decode w = .bad .illegalOp) ∧
    (rsvdNat w = 0 → opNat w < 10 → (opNat w < 4 ∨ 6 < opNat w) → nbytesNat w ≠ 0 → decode w = .bad .badLen) ∧
    (rsvdNat w = 0 → opNat w < 10 → (4 ≤ opNat w ∧ opNat w ≤ 6 ∨ nbytesNat w = 0) →
      ∃ i, decode w = .cmd i ∧ (opcodeOf i).toNat = opNat w ∧ (nbytesOf i).toNat = nbytesNat w)

/-- A latched word with a reserved opcode commits ILLEGAL_OP and changes nothing else; a word with RSVD ≠ 0 is never executed;
the only NOP is the word 0 (R134). -/
def Obligations.ReservedWordsDoNothing : Prop :=
  (∀ s : State, s.rstn = true → s.busy = true → rsvdNat s.lcmd = 0 → 10 ≤ opNat s.lcmd →
    coreTurn s = .next (s.failedWith 2 [])) ∧
  (∀ s : State, s.rstn = true → s.busy = true → rsvdNat s.lcmd ≠ 0 → coreTurn s = .next (s.failedWith 1 [])) ∧
  (∀ w : Word, decode w = .cmd .nop ↔ w = 0)

/-- A defined opcode whose NBYTES is outside the range of R131 commits BAD_LEN; inside the range it never does, and the command
takes NBYTES as written. -/
def Obligations.ByteCountRange : Prop :=
  ∀ s : State, s.rstn = true → s.busy = true → rsvdNat s.lcmd = 0 → opNat s.lcmd < 10 →
    (lengthInRange (opNat s.lcmd) (nbytesNat s.lcmd) = false → coreTurn s = .next (s.failedWith 3 [])) ∧
    (lengthInRange (opNat s.lcmd) (nbytesNat s.lcmd) = true → s.bceAnswers = true →
      ∃ i t, decode s.lcmd = .cmd i ∧ (nbytesOf i).toNat = nbytesNat s.lcmd ∧ coreTurn s = .next t ∧ t.errcode ≠ 3)

/-- The core's turn reports the first check of R302 that fails, in R302's order; checks 1 to 6 make no BCE call; if all pass and
the BCE answers, the command fails exactly when one of its BCE calls answers `err`, with BCE_FAIL. -/
def Obligations.ErrorCheckOrder : Prop :=
  ∀ s : State, s.rstn = true → s.busy = true →
    if rsvdNat s.lcmd ≠ 0 then coreTurn s = .next (s.failedWith 1 [])
    else if 10 ≤ opNat s.lcmd then coreTurn s = .next (s.failedWith 2 [])
    else if lengthInRange (opNat s.lcmd) (nbytesNat s.lcmd) = false then coreTurn s = .next (s.failedWith 3 [])
    else if (opNat s.lcmd = 4 ∨ opNat s.lcmd = 5) ∧ s.zvalid = false then coreTurn s = .next (s.failedWith 4 [])
    else if (opNat s.lcmd = 4 ∧ (s.ctphase = true ∨ s.short = true)) ∨
        (opNat s.lcmd = 5 ∧ s.ctphase = true ∧ s.short = true) then coreTurn s = .next (s.failedWith 5 [])
    else if opNat s.lcmd = 6 ∧ s.ctr = 0 then coreTurn s = .next (s.failedWith 6 [])
    else ∃ i t, decode s.lcmd = .cmd i ∧ coreTurn s = .next t ∧
      (s.bceAnswers = true →
        (t.err = true ↔ ∃ x ∈ bceCalls i s, s.bce x = .err) ∧ (t.err = true → t.errcode = 7))

/-! ## The commands: result, errors, completion -/

/-- NOP (R270): the word 0x00000000 alone is a NOP, and it changes nothing beyond the commit. -/
def Obligations.NopOnlyCommits : Prop :=
  takesNoCount 0 .nop ∧ ∀ s : State, exec .nop s = .next (s.committed [])

/-- DERIVE_Z (R160): HKEY takes the BCE's answer to C0 00^15 modulo 2^127, and ZVALID is set; an `err` is BCE_FAIL. -/
def Obligations.DeriveZWritesKey : Prop :=
  takesNoCount 1 .deriveZ ∧
  ∀ s : State, s.bceAnswers = true →
    (∀ y, s.bce 0xC0000000000000000000000000000000#128 = .ok y →
      exec .deriveZ s = .next (State.committed
        { s with hkey := BitVec.ofNat 128 (y.toNat % 2 ^ 127), zvalid := true } [0xC0000000000000000000000000000000#128])) ∧
    (s.bce 0xC0000000000000000000000000000000#128 = .err →
      exec .deriveZ s = .next (s.failedWith 7 [0xC0000000000000000000000000000000#128]))

/-- LOAD_Z (R165): HKEY takes DATA modulo 2^127, ZVALID is set, and no BCE call is made. -/
def Obligations.LoadZWritesKey : Prop :=
  takesNoCount 2 .loadZ ∧
  ∀ s : State, exec .loadZ s = .next (State.committed
    { s with hkey := BitVec.ofNat 128 (s.data.toNat % 2 ^ 127), zvalid := true } [])

/-- MSG_INIT (R190): the message registers and flags start again, everything else stays, and a second MSG_INIT changes
nothing more. -/
def Obligations.MsgInitStartsMessage : Prop :=
  takesNoCount 3 .msgInit ∧
  (∀ s : State, exec .msgInit s = .next (State.committed
    { s with
      acc := 0, alen := 0, clen := 0, ctr := 1, tag := 0,
      tagv := false, authOk := false, authFail := false, ctphase := false, short := false } [])) ∧
  (∀ s t : State, exec .msgInit s = .next t → exec .msgInit t = .next t)

/-- HASH_AAD (R195): errors in order, else ACC becomes (ACC + W)·Z modulo p, ALEN advances by n and SHORT says n < 12. -/
def Obligations.HashAadAbsorbsChunk : Prop :=
  takesCount 4 .hashAad ∧
  ∀ (s : State) (n : BitVec 5),
    (n.toNat < 1 ∨ 12 < n.toNat → exec (.hashAad n) s = .next (s.failedWith 3 [])) ∧
    (1 ≤ n.toNat → n.toNat ≤ 12 → s.zvalid = false → exec (.hashAad n) s = .next (s.failedWith 4 [])) ∧
    (1 ≤ n.toNat → n.toNat ≤ 12 → s.zvalid = true → (s.ctphase = true ∨ s.short = true) →
      exec (.hashAad n) s = .next (s.failedWith 5 [])) ∧
    (1 ≤ n.toNat → n.toNat ≤ 12 → s.zvalid = true → s.ctphase = false → s.short = false →
      s.acc.toNat ≤ modulusP - 1 → s.hkey.toNat < 2 ^ 127 →
      exec (.hashAad n) s = .next (State.committed
        { s with
          acc := BitVec.ofNat 128 ((s.acc.toNat + dataChunkNat s.data n.toNat) * s.hkey.toNat % modulusP),
          alen := s.alen + BitVec.ofNat 64 n.toNat, short := decide (n.toNat < 12) } []))

/-- HASH_CT (R202): errors in order, else ACC becomes (ACC + W)·Z modulo p, CLEN advances by n, CTPHASE is set and SHORT says
n < 12. -/
def Obligations.HashCtAbsorbsChunk : Prop :=
  takesCount 5 .hashCt ∧
  ∀ (s : State) (n : BitVec 5),
    (n.toNat < 1 ∨ 12 < n.toNat → exec (.hashCt n) s = .next (s.failedWith 3 [])) ∧
    (1 ≤ n.toNat → n.toNat ≤ 12 → s.zvalid = false → exec (.hashCt n) s = .next (s.failedWith 4 [])) ∧
    (1 ≤ n.toNat → n.toNat ≤ 12 → s.zvalid = true → s.ctphase = true → s.short = true →
      exec (.hashCt n) s = .next (s.failedWith 5 [])) ∧
    (1 ≤ n.toNat → n.toNat ≤ 12 → s.zvalid = true → (s.ctphase = false ∨ s.short = false) →
      s.acc.toNat ≤ modulusP - 1 → s.hkey.toNat < 2 ^ 127 →
      exec (.hashCt n) s = .next (State.committed
        { s with
          acc := BitVec.ofNat 128 ((s.acc.toNat + dataChunkNat s.data n.toNat) * s.hkey.toNat % modulusP),
          clen := s.clen + BitVec.ofNat 64 n.toNat, ctphase := true, short := decide (n.toNat < 12) } []))

/-- CTR_XOR (R222): BAD_LEN, CTR_ZERO and BCE_FAIL leave DATA and CTR alone; else bytes 0 to n−1 of DATA are XORed with the
keystream block, the others stay, and CTR advances by 1 modulo 2^32. -/
def Obligations.CtrXorAppliesKeystream : Prop :=
  takesCount 6 .ctrXor ∧
  ∀ (s : State) (n : BitVec 5),
    (n.toNat < 1 ∨ 16 < n.toNat → exec (.ctrXor n) s = .next (s.failedWith 3 [])) ∧
    (1 ≤ n.toNat → n.toNat ≤ 16 → s.ctr = 0 → exec (.ctrXor n) s = .next (s.failedWith 6 [])) ∧
    (1 ≤ n.toNat → n.toNat ≤ 16 → s.ctr ≠ 0 → s.bceAnswers = true → s.bce (counterBlock s.nonce s.ctr) = .err →
      exec (.ctrXor n) s = .next (s.failedWith 7 [counterBlock s.nonce s.ctr])) ∧
    (∀ k, 1 ≤ n.toNat → n.toNat ≤ 16 → s.ctr ≠ 0 → s.bceAnswers = true →
      s.bce (counterBlock s.nonce s.ctr) = .ok k →
      ∃ d : Block,
        (∀ i, i < 16 → byte d i = if i < n.toNat then byte s.data i ^^^ byte k i else byte s.data i) ∧
        exec (.ctrXor n) s = .next (State.committed
          { s with data := d, ctr := BitVec.ofNat 32 (s.ctr.toNat + 1) } [counterBlock s.nonce s.ctr]))

/-- TAG_GEN (R245): TAG is BCE(ACC + ALEN·2^64 + CLEN modulo 2^128) ⊕ BCE(CB(0)); the second call is not made when the first
answers `err`; on error nothing but the error commit changes. -/
def Obligations.TagGenComputesTag : Prop :=
  takesNoCount 7 .tagGen ∧
  ∀ s : State, s.bceAnswers = true →
    let sum := BitVec.ofNat 128 (s.acc.toNat + s.alen.toNat * 2 ^ 64 + s.clen.toNat)
    let mask := counterBlock s.nonce 0
    (s.bce sum = .err → exec .tagGen s = .next (s.failedWith 7 [sum])) ∧
    (∀ r1, s.bce sum = .ok r1 → s.bce mask = .err → exec .tagGen s = .next (s.failedWith 7 [sum, mask])) ∧
    (∀ r1 r2, s.bce sum = .ok r1 → s.bce mask = .ok r2 →
      exec .tagGen s = .next (State.committed
        { s with tag := r1 ^^^ r2, tagv := true, authOk := false, authFail := false } [sum, mask]))

/-- TAG_CHECK (R250): the tag as TAG_GEN computes it; AUTH_OK when it equals TAGIN, else AUTH_FAIL and DATA zeroed; errors as
TAG_GEN, with nothing else changed. -/
def Obligations.TagCheckJudgesTag : Prop :=
  takesNoCount 8 .tagCheck ∧
  ∀ s : State, s.bceAnswers = true →
    let sum := BitVec.ofNat 128 (s.acc.toNat + s.alen.toNat * 2 ^ 64 + s.clen.toNat)
    let mask := counterBlock s.nonce 0
    (s.bce sum = .err → exec .tagCheck s = .next (s.failedWith 7 [sum])) ∧
    (∀ r1, s.bce sum = .ok r1 → s.bce mask = .err → exec .tagCheck s = .next (s.failedWith 7 [sum, mask])) ∧
    (∀ r1 r2, s.bce sum = .ok r1 → s.bce mask = .ok r2 → r1 ^^^ r2 = s.tagin →
      exec .tagCheck s = .next (State.committed
        { s with tag := r1 ^^^ r2, tagv := true, authOk := true, authFail := false } [sum, mask])) ∧
    (∀ r1 r2, s.bce sum = .ok r1 → s.bce mask = .ok r2 → r1 ^^^ r2 ≠ s.tagin →
      exec .tagCheck s = .next (State.committed
        { s with tag := r1 ^^^ r2, tagv := true, authOk := false, authFail := true, data := 0 } [sum, mask]))

/-- CLEAR (R273): every key-dependent and message-dependent register and flag is erased, everything else stays, and HASH_AAD and
HASH_CT then end with NO_KEY. -/
def Obligations.ClearErases : Prop :=
  takesNoCount 9 .clear ∧
  (∀ s : State, exec .clear s = .next (State.committed
    { s with
      hkey := 0, zvalid := false, acc := 0, alen := 0, clen := 0, ctr := 1,
      nonce := 0, data := 0, tagin := 0, tag := 0,
      tagv := false, authOk := false, authFail := false, ctphase := false, short := false } [])) ∧
  (∀ (s t : State) (n : BitVec 5), exec .clear s = .next t → 1 ≤ n.toNat → n.toNat ≤ 12 →
    exec (.hashAad n) t = .next (t.failedWith 4 []) ∧ exec (.hashCt n) t = .next (t.failedWith 4 []))

/-- The state after CLEAR is the reset state but for INTEN, INTSTAT, the latched word, and what lies outside the block (R353;
LCMD's value at reset is log entry 4's). -/
def Obligations.ClearGivesResetState : Prop :=
  ∀ s : State, exec .clear s = .next
    { State.reset with
      doneIe := s.doneIe, errIe := s.errIe, done := true, erri := s.erri, lcmd := s.lcmd,
      rstn := s.rstn, resp := s.resp, bceAnswers := s.bceAnswers, bceTable := s.bceTable, inputs := s.inputs }

/-- The frame of every command: a register or flag changes only by a command whose row of R132 lists it as written, and the pins,
the surroundings, INTEN and LCMD never do. -/
def Obligations.CommandsWriteOnlyTheirRow : Prop :=
  ∀ (i : Instr) (s t : State), exec i s = .next t →
    (opcodeOf i ∉ [1#8, 2#8, 9#8] → t.hkey = s.hkey ∧ t.zvalid = s.zvalid) ∧
    (opcodeOf i ∉ [3#8, 4#8, 5#8, 9#8] → t.acc = s.acc ∧ t.short = s.short) ∧
    (opcodeOf i ∉ [3#8, 4#8, 9#8] → t.alen = s.alen) ∧
    (opcodeOf i ∉ [3#8, 5#8, 9#8] → t.clen = s.clen ∧ t.ctphase = s.ctphase) ∧
    (opcodeOf i ∉ [3#8, 6#8, 9#8] → t.ctr = s.ctr) ∧
    (opcodeOf i ∉ [6#8, 8#8, 9#8] → t.data = s.data) ∧
    (opcodeOf i ∉ [3#8, 7#8, 8#8, 9#8] →
      t.tag = s.tag ∧ t.tagv = s.tagv ∧ t.authOk = s.authOk ∧ t.authFail = s.authFail) ∧
    (opcodeOf i ≠ 9#8 → t.nonce = s.nonce ∧ t.tagin = s.tagin) ∧
    t.doneIe = s.doneIe ∧ t.errIe = s.errIe ∧ t.lcmd = s.lcmd ∧ t.rstn = s.rstn ∧ t.resp = s.resp ∧
    t.bceAnswers = s.bceAnswers ∧ t.bceTable = s.bceTable ∧ t.inputs = s.inputs

/-! ## Operand layouts -/

/-- The chunk word (R135): four zero bytes, DATA's first n bytes, zeros; as an integer below 2^96 it is the sum of the bytes at
their places. -/
def Obligations.ChunkWordLayout : Prop :=
  ∀ (d : Block) (n : Nat), n ≤ 12 →
    (∀ i, i < 16 → byte (chunkWord d n) i = if 4 ≤ i ∧ i < 4 + n then byte d (i - 4) else 0) ∧
    (chunkWord d n).toNat = dataChunkNat d n ∧ (chunkWord d n).toNat < 2 ^ 96

/-- The counter block (R136): byte 0 is 80, bytes 1 to 11 are the nonce as the bus holds it, bytes 12 to 15 the counter
big-endian. -/
def Obligations.CounterBlockLayout : Prop :=
  ∀ (n : BitVec 88) (c : Word),
    byte (counterBlock n c) 0 = 0x80 ∧
    (∀ i, i < 11 → byte (counterBlock n c) (1 + i) = (nonceWord n (i / 4)).extractLsb' (8 * (3 - i % 4)) 8) ∧
    (∀ i, i < 4 → byte (counterBlock n c) (12 + i) = c.extractLsb' (8 * (3 - i)) 8)

/-- The words of a 128-bit register (R37): word k holds bytes 4k to 4k+3, byte 4k on top, is bits [127−32k : 96−32k] of the
integer, and stands at offset base + 4k; ALEN and CLEN have their high word at the lower offset; writing a word changes that
word alone (R102). -/
def Obligations.BlockWordMapping : Prop :=
  (∀ (b : Block) (k : Nat), k < 4 →
    (∀ j, j < 4 → (blockWord b k).extractLsb' (8 * (3 - j)) 8 = byte b (4 * k + j)) ∧
    (blockWord b k).toNat = b.toNat / 2 ^ (96 - 32 * k) % 2 ^ 32 ∧
    (∀ (v : Word) (j : Nat), j < 4 → blockWord (setBlockWord b k v) j = if j = k then v else blockWord b j)) ∧
  (∀ (s : State) (k : Nat), k < 4 →
    s.regRead (BitVec.ofNat 12 (0x030 + 4 * k)) = .value (blockWord s.data k) ∧
    s.regRead (BitVec.ofNat 12 (0x040 + 4 * k)) = .value (blockWord s.tagin k) ∧
    s.regRead (BitVec.ofNat 12 (0x050 + 4 * k)) = .value (blockWord s.tag k) ∧
    s.regRead (BitVec.ofNat 12 (0x060 + 4 * k)) = .value (blockWord s.acc k)) ∧
  (∀ s : State, ∃ ah al ch cl : Word,
    s.regRead 0x070 = .value ah ∧ s.regRead 0x074 = .value al ∧ s.alen.toNat = ah.toNat * 2 ^ 32 + al.toNat ∧
    s.regRead 0x078 = .value ch ∧ s.regRead 0x07C = .value cl ∧ s.clen.toNat = ch.toNat * 2 ^ 32 + cl.toNat)

/-- The sum the first tag call encrypts (R240, R241): ACC plus ALEN·2^64 + CLEN modulo 2^128, with the carry out of bit 63 kept. -/
def Obligations.TagSumWraps : Prop :=
  (∀ s : State, s.tagSum.toNat = (s.acc.toNat + (s.alen.toNat * 2 ^ 64 + s.clen.toNat)) % 2 ^ 128) ∧
  (∀ s : State, s.acc.toNat ≤ modulusP - 1 → s.alen.toNat < 2 ^ 63 →
    s.tagSum.toNat = s.acc.toNat + (s.alen.toNat * 2 ^ 64 + s.clen.toNat)) ∧
  (∀ s : State, s.acc = 0x0000000000000000FFFFFFFFFFFFFFFF#128 → s.alen = 0 → s.clen = 1 →
    s.tagSum = 0x00000000000000010000000000000000#128)

/-! ## Arithmetic (41_universal_hash.md) -/

/-- The addition step computes the canonical residue of the sum for every admitted input (R181). -/
def Obligations.AddfoldIsResidue : Prop :=
  ∀ a w : Block, a.toNat ≤ modulusP - 1 → w.toNat < 2 ^ 96 → (addfold a w).toNat = (a.toNat + w.toNat) % modulusP

/-- The product fold computes the canonical residue of the product for every admitted input (R183). -/
def Obligations.MulmodIsResidue : Prop :=
  ∀ a z : Block, a.toNat ≤ modulusP - 1 → z.toNat < 2 ^ 127 → (mulmod a z).toNat = a.toNat * z.toNat % modulusP

/-- The corner cases of the multiplier (R184). -/
def Obligations.MulmodCorners : Prop :=
  (∀ a : Block, a.toNat ≤ modulusP - 1 → mulmod a 0 = 0 ∧ mulmod a pBlock = 0 ∧ mulmod a 1 = a) ∧
  (∀ z : Block, z.toNat < 2 ^ 127 → mulmod 0 z = 0) ∧
  mulmod 1 0x40000000000000000000000000000000#128 = 0x40000000000000000000000000000000#128 ∧
  mulmod 2 0x40000000000000000000000000000000#128 = 1

/-- Stream equivalence (R205, R186): MSG_INIT, HASH_AAD over the 12-byte chunks of `a`, HASH_CT over those of `c` leave in ACC the
polynomial hash of the two streams, and in ALEN and CLEN their lengths. The commands are chained by exec, without the issue between
them (the model's choice, log entry 13). -/
def Obligations.MessageHashIsPolynomial : Prop :=
  ∀ (s : State) (a c : List Byte), s.zvalid = true → s.hkey.toNat < 2 ^ 127 →
    ∃ t, hashMessage a c s = .next t ∧ t.acc.toNat = messageHash s.hkey.toNat a c ∧
      t.alen = BitVec.ofNat 64 a.length ∧ t.clen = BitVec.ofNat 64 c.length ∧ t.err = false

/-- The tag of a message (R244): DERIVE_Z, the hashing of R205 and TAG_GEN write the tag the source defines. The commands are
chained by exec, without the issue between them (the model's choice, log entry 13). -/
def Obligations.MessageTagIsSourceTag : Prop :=
  ∀ (s : State) (a c : List Byte) (y r1 r2 : Block),
    s.bceAnswers = true → a.length < 2 ^ 64 → c.length < 2 ^ 64 →
    s.bce keyBlock = .ok y →
    s.bce (BitVec.ofNat 128 (messageHash (y.toNat % 2 ^ 127) a c + (a.length * 2 ^ 64 + c.length))) = .ok r1 →
    s.bce (counterBlock s.nonce 0) = .ok r2 →
    ∃ t, andThen (andThen (exec .deriveZ s) (hashMessage a c)) (exec .tagGen) = .next t ∧
      t.tag = r1 ^^^ r2 ∧ t.tagv = true ∧ t.err = false

/-! ## Counter mode (42_counter_mode.md) -/

/-- Symmetry (R227): CTR_XOR applied twice from the same counter restores DATA. -/
def Obligations.CtrXorTwiceRestoresData : Prop :=
  ∀ (s : State) (n : BitVec 5) (k : Block),
    1 ≤ n.toNat → n.toNat ≤ 16 → s.ctr ≠ 0 → s.bceAnswers = true → s.bce (counterBlock s.nonce s.ctr) = .ok k →
    ∃ t u, exec (.ctrXor n) s = .next t ∧ exec (.ctrXor n) { t with ctr := s.ctr } = .next u ∧ u.data = s.data

/-- Counter discipline (R221): no CTR_XOR ever sends the mask block CB(0) to the BCE. -/
def Obligations.CounterZeroNeverKeystream : Prop :=
  ∀ (s t : State) (n : BitVec 5), s.bceAnswers = true → exec (.ctrXor n) s = .next t →
    ∀ m : BitVec 88, counterBlock m 0 ∉ t.bceReqs

/-- Counter wrap (R225). After CTR = 0xFFFFFFFF a CTR_XOR commits as ever and leaves CTR = 0, with no error, which the bus shows;
the next CTR_XOR ends with CTR_ZERO. Nothing else depends on CTR: no other offset, not irq, and no other command, each of which
does the same to everything else and leaves CTR as it was, or 1 for MSG_INIT and CLEAR. -/
def Obligations.CounterWrapsThenRefuses : Prop :=
  (∀ (s : State) (n : BitVec 5) (k : Block),
    1 ≤ n.toNat → n.toNat ≤ 16 → s.ctr = 0xFFFFFFFF → s.bceAnswers = true →
    s.bce (counterBlock s.nonce s.ctr) = .ok k →
    ∃ (d : Block) (t : State),
      (∀ i, i < 16 → byte d i = if i < n.toNat then byte s.data i ^^^ byte k i else byte s.data i) ∧
      t = State.committed { s with data := d, ctr := 0 } [counterBlock s.nonce s.ctr] ∧
      exec (.ctrXor n) s = .next t ∧ t.regRead 0x02C = .value 0 ∧
      ∀ m : BitVec 5, 1 ≤ m.toNat → m.toNat ≤ 16 → exec (.ctrXor m) t = .next (t.failedWith 6 [])) ∧
  (∀ (s : State) (c : Word),
    { s with ctr := c }.irq = s.irq ∧
    ∀ off : BitVec 12, off ≠ 0x02C → { s with ctr := c }.regRead off = s.regRead off) ∧
  (∀ (i : Instr) (s t : State) (c : Word), opcodeOf i ≠ 6#8 → exec i s = .next t →
    exec i { s with ctr := c } = .next { t with ctr := if opcodeOf i = 3#8 ∨ opcodeOf i = 9#8 then 1 else c })

/-! ## Keys and tags -/

/-- DERIVE_Z is a function of the BCE alone (R161): any two states with the same BCE get the same HKEY. -/
def Obligations.DeriveZDependsOnBceOnly : Prop :=
  ∀ s u t v : State, (∀ x, s.bce x = u.bce x) → s.bceAnswers = true → u.bceAnswers = true →
    exec .deriveZ s = .next t → exec .deriveZ u = .next v → t.err = false → v.err = false ∧ t.hkey = v.hkey

/-- No command but HASH_AAD and HASH_CT reads HKEY (R162): with another key in HKEY it does the same to everything else, and the
new key is the same where the command writes one (LOAD_Z, CLEAR, and DERIVE_Z when the BCE answers `ok`), else the one there was. -/
def Obligations.OnlyHashingReadsKey : Prop :=
  ∀ (i : Instr) (s t : State) (k : Block), opcodeOf i ∉ [4#8, 5#8] → exec i s = .next t →
    exec i { s with hkey := k } = .next
      { t with
        hkey :=
          if opcodeOf i = 2#8 ∨ opcodeOf i = 9#8 ∨ (opcodeOf i = 1#8 ∧ s.bceAnswers = true ∧ t.err = false) then t.hkey
          else k }

/-- No bus read shows HKEY (R65, R162): two states that differ in HKEY alone read the same at every offset. -/
def Obligations.KeyNotReadable : Prop :=
  ∀ (s : State) (k : Block) (off : BitVec 12), { s with hkey := k }.regRead off = s.regRead off

/-- A tag check repeated on the same ACC, ALEN, CLEN, NONCE and TAGIN under the same BCE has the same outcome (R254). -/
def Obligations.TagCheckOutcomeIsFinal : Prop :=
  ∀ s u t : State, s.bceAnswers = true → u.bceAnswers = true → (∀ x, u.bce x = s.bce x) →
    u.acc = s.acc → u.alen = s.alen → u.clen = s.clen → u.nonce = s.nonce → u.tagin = s.tagin →
    exec .tagCheck s = .next t → t.err = false →
    ∃ v, exec .tagCheck u = .next v ∧ v.err = false ∧ v.tag = t.tag ∧ v.authOk = t.authOk ∧ v.authFail = t.authFail

/-! ## Errors, issue and commit (60_exceptions.md) -/

/-- Errors are precise (R303): a command that fails writes BUSY, ERR, ERRCODE, DONE and ERRI and nothing else of the block, with
a code from 1 to 7. -/
def Obligations.ErrorsArePrecise : Prop :=
  ∀ s t : State, s.rstn = true → s.busy = true → s.bceAnswers = true → coreTurn s = .next t → t.err = true →
    t = s.failedWith t.errcode t.bceReqs ∧ 1 ≤ t.errcode.toNat ∧ t.errcode.toNat ≤ 7

/-- The complete step is enabled exactly when BUSY = 1 (R306): then it ends with BUSY = 0 and DONE = 1, and without an error
ERRCODE is 0 and ERRI is as it was; otherwise it does nothing. -/
def Obligations.CommitEndsBusy : Prop :=
  (∀ s : State, s.rstn = true → s.busy = true → s.bceAnswers = true →
    ∃ t, coreTurn s = .next t ∧ t.busy = false ∧ t.done = true ∧
      (t.err = false → t.errcode = 0 ∧ t.erri = s.erri) ∧ (t.err = true → t.erri = true)) ∧
  (∀ s : State, s.busy = false → coreTurn s = .next s)

/-- Issue (R305): a CMD write while BUSY = 0 latches the word, sets BUSY, clears ERR and ERRCODE and changes nothing else; while
BUSY = 1 it is refused and changes nothing. -/
def Obligations.IssueLatchesCommand : Prop :=
  (∀ (s : State) (v : Word), s.busy = false →
    s.regWrite 0x008 v 0b1111 = ({ s with lcmd := v, busy := true, err := false, errcode := 0 }, .written)) ∧
  (∀ (s : State) (v : Word), s.busy = true → s.regWrite 0x008 v 0b1111 = (s, .error))

/-- A command makes the BCE calls its row lists, in that order, and a call that answers `err` ends it with BCE_FAIL: every call but
the last was answered `ok`, and the last answered `err` exactly when the command ends with BCE_FAIL (R120). The calls made stand in
bceReqs, the model's own record (log entry 7). -/
def Obligations.BceCallsInOrder : Prop :=
  ∀ (i : Instr) (s t : State), s.bceAnswers = true → exec i s = .next t →
    t.bceReqs <+: bceCalls i s ∧
    (∀ x ∈ t.bceReqs.dropLast, ∃ y, s.bce x = .ok y) ∧
    (t.err = false → t.bceReqs = bceCalls i s ∧ ∀ x ∈ t.bceReqs, ∃ y, s.bce x = .ok y) ∧
    (t.errcode = 7 ↔ ∃ x, t.bceReqs.getLast? = some x ∧ s.bce x = .err)

/-! ## The register window (10_state.md, 20_memory.md) -/

/-- An access is refused exactly under the five conditions of R104, and a refused access changes nothing. -/
def Obligations.AccessRefusedExactly : Prop :=
  ∀ (s : State) (off : BitVec 12) (v : Word) (strb : BitVec 4),
    (s.regRead off = .error ↔ offsetReserved off.toNat = true) ∧
    ((offsetReserved off.toNat = true ∨ offsetReadOnly off.toNat = true ∨ strb ≠ 0b1111 ∨
        (s.busy = true ∧ offsetBusyLocked off.toNat = true)) → s.regWrite off v strb = (s, .error)) ∧
    (¬(offsetReserved off.toNat = true ∨ offsetReadOnly off.toNat = true ∨ strb ≠ 0b1111 ∨
        (s.busy = true ∧ offsetBusyLocked off.toNat = true)) → (s.regWrite off v strb).2 = .written)

/-- A host read changes no register (R101, R106): only the port's response changes, and reading again gives the same response. -/
def Obligations.ReadsHaveNoSideEffect : Prop :=
  ∀ (s : State) (off : BitVec 12), s.rstn = true →
    takeInput (.read off) s = .next { s with resp := s.regRead off } ∧
    ∀ t, takeInput (.read off) s = .next t → t.regRead off = s.regRead off

/-- What a write leaves to read (R39, R102). While BUSY = 0 an operand reads back as written, NONCE2 without its low byte, and CMD
as 0. At every BUSY a write to INTEN sets its two bits and nothing else, and reads back in them (R53, R105). Every other offset reads
as before, unless the write issued a command. -/
def Obligations.WriteReadsBack : Prop :=
  ∀ (s : State) (off : BitVec 12) (v : Word),
    (s.busy = false → 0x020 ≤ off.toNat → off.toNat < 0x050 → off.toNat % 4 = 0 →
      (s.regWrite off v 0b1111).1.regRead off = .value (if off = 0x028 then v &&& 0xFFFFFF00 else v)) ∧
    (s.busy = false → off = 0x008 → (s.regWrite off v 0b1111).1.regRead off = .value 0) ∧
    (off = 0x010 →
      s.regWrite off v 0b1111 = ({ s with doneIe := v.getLsbD 0, errIe := v.getLsbD 1 }, .written) ∧
      (s.regWrite off v 0b1111).1.regRead off = .value (v &&& 0x3)) ∧
    (off ≠ 0x008 ∨ s.busy = true →
      ∀ off' : BitVec 12, off' ≠ off → (s.regWrite off v 0b1111).1.regRead off' = s.regRead off')

/-- Writing INTSTAT clears each bit written as 1 and leaves each bit written as 0, while BUSY too (R54, R105). -/
def Obligations.IntstatWriteOneClears : Prop :=
  ∀ (s : State) (v : Word),
    (s.regWrite 0x014 v 0b1111).1 =
      { s with done := s.done && !v.getLsbD 0, erri := s.erri && !v.getLsbD 1 } ∧
    (s.regWrite 0x014 v 0b1111).1.regRead 0x014 = .value (s.intstatWord &&& ~~~v)

/-- The irq output (R67, R320). -/
def Obligations.IrqLevel : Prop :=
  ∀ s : State, s.irq = true ↔ (s.done = true ∧ s.doneIe = true) ∨ (s.erri = true ∧ s.errIe = true)

/-- The identity and parameter registers (R40, R41), in every state. -/
def Obligations.IdentityRegisters : Prop :=
  ∀ s : State, s.regRead 0x000 = .value 0x43574331 ∧ s.regRead 0x004 = .value 0x0C100B10

/-- The STATUS word as the host reads it, bit by bit (R43). -/
def Obligations.StatusLayout : Prop :=
  ∀ s : State, ∃ w, s.regRead 0x00C = .value w ∧
    w.getLsbD 0 = s.busy ∧ w.getLsbD 1 = s.err ∧ w.getLsbD 2 = s.zvalid ∧ w.getLsbD 3 = s.tagv ∧
    w.getLsbD 4 = s.authOk ∧ w.getLsbD 5 = s.authFail ∧ w.getLsbD 6 = s.ctphase ∧ w.getLsbD 7 = s.short ∧
    w.extractLsb' 8 4 = s.errcode ∧ ∀ j, 12 ≤ j → w.getLsbD j = false

/-- While BUSY = 1 no event but the core's turn and a reset changes a register the host can read or a command can read, save
INTEN and INTSTAT (R105, R114). -/
def Obligations.OperandsHeldWhileBusy : Prop :=
  ∀ (e : Input) (s t : State), s.busy = true → e ≠ .core → e ≠ .rst false → takeInput e s = .next t →
    t = { s with
      doneIe := t.doneIe, errIe := t.errIe, done := t.done, erri := t.erri,
      rstn := t.rstn, resp := t.resp, bceAnswers := t.bceAnswers }

/-- No bus access writes a result register, the key or a command's flag (R39, R104): only the core's turn and a reset do. -/
def Obligations.HostCannotWriteResults : Prop :=
  ∀ (e : Input) (s t : State), e ≠ .core → e ≠ .rst false → takeInput e s = .next t →
    t.tag = s.tag ∧ t.acc = s.acc ∧ t.alen = s.alen ∧ t.clen = s.clen ∧ t.hkey = s.hkey ∧ t.zvalid = s.zvalid ∧
    t.tagv = s.tagv ∧ t.authOk = s.authOk ∧ t.authFail = s.authFail ∧ t.ctphase = s.ctphase ∧ t.short = s.short

/-- Between issue and commit every readable register shows its value from before the command (R44, R105, R360): the issue changes
no offset but STATUS, and no step that leaves BUSY = 1 (so neither commits the command nor resets the block) changes any offset,
save INTEN and INTSTAT, which the host may write. -/
def Obligations.IssueHidesResults : Prop :=
  (∀ (s : State) (v : Word) (off : BitVec 12), off ≠ 0x00C → (s.issue v).regRead off = s.regRead off) ∧
  (∀ (s t : State) (off : BitVec 12), s.busy = true → step s = .next t → t.busy = true → off ≠ 0x010 → off ≠ 0x014 →
    t.regRead off = s.regRead off)

/-! ## Reset, the step, and what every step keeps -/

/-- The state after reset (R69): STATUS, INTEN and INTSTAT read 0, CTR is 1, everything else is 0, and irq is low. -/
def Obligations.ResetValues : Prop :=
  State.reset.regRead 0x00C = .value 0 ∧ State.reset.regRead 0x010 = .value 0 ∧ State.reset.regRead 0x014 = .value 0 ∧
  State.reset.nonce = 0 ∧ State.reset.ctr = 0x00000001 ∧ State.reset.data = 0 ∧ State.reset.tagin = 0 ∧
  State.reset.tag = 0 ∧ State.reset.acc = 0 ∧ State.reset.alen = 0 ∧ State.reset.clen = 0 ∧ State.reset.hkey = 0 ∧
  State.reset.zvalid = false ∧ State.reset.busy = false ∧ State.reset.irq = false ∧
  State.reset.regRead 0x000 = .value 0x43574331 ∧ State.reset.regRead 0x004 = .value 0x0C100B10

/-- Reset at any moment, a command in progress among them (R350, R351; what the block shows while rst_n is low is log entry 8's):
every register takes its reset value and no INTSTAT bit is set; then neither the core nor a bus access does anything until
rst_n is released. -/
def Obligations.ResetAbandonsCommand : Prop :=
  (∀ s : State, takeInput (.rst false) s = .next
    { State.reset with
      rstn := false, bceAnswers := s.bceAnswers, bceTable := s.bceTable, inputs := s.inputs }) ∧
  (∀ s : State, s.rstn = false →
    coreTurn s = .next s ∧
    (∀ off, takeInput (.read off) s = .next { s with resp := .notReady }) ∧
    (∀ off v strb, takeInput (.write off v strb) s = .next { s with resp := .notReady }) ∧
    takeInput (.rst true) s = .next { s with rstn := true })

/-- When the latched word decodes to `i`, a step in which the core has the turn is `exec i`, after taking the event off the list;
a word that does not decode commits its error; `withFetchWord` puts a command where the next step runs it. -/
def Obligations.StepRunsDecodedCommand : Prop :=
  (∀ (s : State) (i : Instr), s.rstn = true → s.busy = true → decode s.lcmd = .cmd i →
    (s.inputs = [] → step s = exec i s) ∧
    (∀ rest, s.inputs = .core :: rest → step s = exec i { s with inputs := rest })) ∧
  (∀ (s : State) (e : CmdError), s.rstn = true → s.busy = true → decode s.lcmd = .bad e →
    (s.inputs = [] → step s = .next (s.failedWith e.code [])) ∧
    (∀ rest, s.inputs = .core :: rest → step s = .next ({ s with inputs := rest }.failedWith e.code []))) ∧
  (∀ (s : State) (w : Nat) (i : Instr), decodeTableWord 32 w = some i →
    step (s.withFetchWord 32 w) =
      exec i { s with lcmd := BitVec.ofNat 32 w, busy := true, err := false, errcode := 0, rstn := true })

/-- HKEY is below 2^127 at reset, and every step keeps it so (R71). -/
def Obligations.KeyStaysBelowBound : Prop :=
  State.reset.hkey.toNat < 2 ^ 127 ∧
  ∀ s t : State, s.hkey.toNat < 2 ^ 127 → step s = .next t → t.hkey.toNat < 2 ^ 127

/-- ACC is a canonical residue at reset, and every step keeps it so (R72). -/
def Obligations.AccStaysCanonical : Prop :=
  State.reset.acc.toNat ≤ modulusP - 1 ∧
  ∀ s t : State, s.acc.toNat ≤ modulusP - 1 → step s = .next t → t.acc.toNat ≤ modulusP - 1

/-- Every step keeps the invariant of the block. -/
def Obligations.StepKeepsInv : Prop := ∀ s t : State, s.Inv → step s = .next t → t.Inv

/-- The state after reset has the invariant. -/
def Obligations.ResetHasInv : Prop := State.reset.Inv

/-- The BCE function is fixed for the run (R118, R122): no step changes any of its answers. -/
def Obligations.StepKeepsBceFunction : Prop :=
  ∀ s t : State, step s = .next t → ∀ x, t.bce x = s.bce x

/-- Progress (R366): a latched command commits in the core's turn if the BCE answers. While the BCE does not answer a command that
needs it, no event but rst_n (or the BCE's own) ends the wait. -/
def Obligations.ProgressOrAwaitBce : Prop :=
  (∀ s : State, s.rstn = true → s.busy = true → s.bceAnswers = true → s.inputs = [] →
    ∃ t, step s = .next t ∧ t.busy = false ∧ t.done = true) ∧
  (∀ (e : Input) (s t : State), s.AwaitsBce → e ≠ .rst false → (∀ b, e ≠ .bce b) → takeInput e s = .next t →
    t.AwaitsBce)

/-- The model's step never stops: in every state it has a next state. For a command that commits this is 60_exceptions.md's opening
(it commits its effects or an error code). Where the spec gives the agent no step (an idle core, R30; a silent BCE, R366, stuck in
93_implementation_defined.md row 20; rst_n low, R350), the next state is the model's stutter (log entries 2, 3, 8 and 9). -/
def Obligations.StepNeverStops : Prop := ∀ s : State, ∃ t, step s = .next t
end

