-- ==== Sys2Proof/Laws/Decode.lean ====
section
/-! SUPPORT. The fields of a command word as numbers, and the decoder once RSVD is 0 (30_encoding.md R130, R133). -/

namespace Sys2Proof.Machine

theorem toNat_opField (w : Word) : (opField w).toNat = opNat w := by
  simp only [opField, opNat, BitVec.extractLsb'_toNat, Nat.shiftRight_eq_div_pow, pow_zero, Nat.div_one]

theorem toNat_nbytesField (w : Word) : (nbytesField w).toNat = nbytesNat w := by
  simp only [nbytesField, nbytesNat, BitVec.extractLsb'_toNat, Nat.shiftRight_eq_div_pow]

theorem toNat_rsvdField (w : Word) : (rsvdField w).toNat = rsvdNat w := by
  have h : w.toNat / 8192 < 2 ^ 19 := by have := w.isLt; omega
  simp only [rsvdField, rsvdNat, BitVec.extractLsb'_toNat, Nat.shiftRight_eq_div_pow]
  norm_num
  exact h

/-- The three fields make up the word (R130). -/
theorem toNat_word (w : Word) : w.toNat = rsvdNat w * 8192 + nbytesNat w * 256 + opNat w := by
  simp only [opNat, nbytesNat, rsvdNat]
  omega

theorem rsvdField_eq_zero (w : Word) : rsvdField w = 0 ↔ rsvdNat w = 0 := by
  rw [← toNat_rsvdField]
  exact ⟨fun h => by rw [h]; rfl, fun h => BitVec.eq_of_toNat_eq h⟩

theorem decode_of_rsvd {w : Word} (h : rsvdNat w ≠ 0) : decode w = .bad .rsvdBits := by
  unfold decode
  rw [if_pos fun e => h ((rsvdField_eq_zero w).mp e)]

theorem decode_of_no_rsvd {w : Word} (h : rsvdNat w = 0) : decode w = decodeOp (opField w) (nbytesField w) := by
  unfold decode
  rw [if_neg fun e => e ((rsvdField_eq_zero w).mpr h)]

end Sys2Proof.Machine
end

