-- ==== Sys2Proof/Laws/State.lean ====
section
/-! SUPPORT. The fields of the state after each shared update: one lemma per field per update, true by definition. -/

namespace Sys2Proof.Machine

variable (s : State)

/-! ### Issue (R305) -/

@[simp] theorem State.issue_busy (v : Word) : (s.issue v).busy = true := rfl
@[simp] theorem State.issue_err (v : Word) : (s.issue v).err = false := rfl
@[simp] theorem State.issue_zvalid (v : Word) : (s.issue v).zvalid = s.zvalid := rfl
@[simp] theorem State.issue_tagv (v : Word) : (s.issue v).tagv = s.tagv := rfl
@[simp] theorem State.issue_authOk (v : Word) : (s.issue v).authOk = s.authOk := rfl
@[simp] theorem State.issue_authFail (v : Word) : (s.issue v).authFail = s.authFail := rfl
@[simp] theorem State.issue_ctphase (v : Word) : (s.issue v).ctphase = s.ctphase := rfl
@[simp] theorem State.issue_short (v : Word) : (s.issue v).short = s.short := rfl
@[simp] theorem State.issue_errcode (v : Word) : (s.issue v).errcode = 0 := rfl
@[simp] theorem State.issue_doneIe (v : Word) : (s.issue v).doneIe = s.doneIe := rfl
@[simp] theorem State.issue_errIe (v : Word) : (s.issue v).errIe = s.errIe := rfl
@[simp] theorem State.issue_done (v : Word) : (s.issue v).done = s.done := rfl
@[simp] theorem State.issue_erri (v : Word) : (s.issue v).erri = s.erri := rfl
@[simp] theorem State.issue_nonce (v : Word) : (s.issue v).nonce = s.nonce := rfl
@[simp] theorem State.issue_ctr (v : Word) : (s.issue v).ctr = s.ctr := rfl
@[simp] theorem State.issue_data (v : Word) : (s.issue v).data = s.data := rfl
@[simp] theorem State.issue_tagin (v : Word) : (s.issue v).tagin = s.tagin := rfl
@[simp] theorem State.issue_tag (v : Word) : (s.issue v).tag = s.tag := rfl
@[simp] theorem State.issue_acc (v : Word) : (s.issue v).acc = s.acc := rfl
@[simp] theorem State.issue_alen (v : Word) : (s.issue v).alen = s.alen := rfl
@[simp] theorem State.issue_clen (v : Word) : (s.issue v).clen = s.clen := rfl
@[simp] theorem State.issue_hkey (v : Word) : (s.issue v).hkey = s.hkey := rfl
@[simp] theorem State.issue_lcmd (v : Word) : (s.issue v).lcmd = v := rfl
@[simp] theorem State.issue_rstn (v : Word) : (s.issue v).rstn = s.rstn := rfl
@[simp] theorem State.issue_resp (v : Word) : (s.issue v).resp = s.resp := rfl
@[simp] theorem State.issue_bceReqs (v : Word) : (s.issue v).bceReqs = s.bceReqs := rfl
@[simp] theorem State.issue_bceAnswers (v : Word) : (s.issue v).bceAnswers = s.bceAnswers := rfl
@[simp] theorem State.issue_bceTable (v : Word) : (s.issue v).bceTable = s.bceTable := rfl
@[simp] theorem State.issue_inputs (v : Word) : (s.issue v).inputs = s.inputs := rfl

/-! ### The successful commit (R306) -/

@[simp] theorem State.commitOk_busy : (s.commitOk).busy = false := rfl
@[simp] theorem State.commitOk_err : (s.commitOk).err = false := rfl
@[simp] theorem State.commitOk_zvalid : (s.commitOk).zvalid = s.zvalid := rfl
@[simp] theorem State.commitOk_tagv : (s.commitOk).tagv = s.tagv := rfl
@[simp] theorem State.commitOk_authOk : (s.commitOk).authOk = s.authOk := rfl
@[simp] theorem State.commitOk_authFail : (s.commitOk).authFail = s.authFail := rfl
@[simp] theorem State.commitOk_ctphase : (s.commitOk).ctphase = s.ctphase := rfl
@[simp] theorem State.commitOk_short : (s.commitOk).short = s.short := rfl
@[simp] theorem State.commitOk_errcode : (s.commitOk).errcode = 0 := rfl
@[simp] theorem State.commitOk_doneIe : (s.commitOk).doneIe = s.doneIe := rfl
@[simp] theorem State.commitOk_errIe : (s.commitOk).errIe = s.errIe := rfl
@[simp] theorem State.commitOk_done : (s.commitOk).done = true := rfl
@[simp] theorem State.commitOk_erri : (s.commitOk).erri = s.erri := rfl
@[simp] theorem State.commitOk_nonce : (s.commitOk).nonce = s.nonce := rfl
@[simp] theorem State.commitOk_ctr : (s.commitOk).ctr = s.ctr := rfl
@[simp] theorem State.commitOk_data : (s.commitOk).data = s.data := rfl
@[simp] theorem State.commitOk_tagin : (s.commitOk).tagin = s.tagin := rfl
@[simp] theorem State.commitOk_tag : (s.commitOk).tag = s.tag := rfl
@[simp] theorem State.commitOk_acc : (s.commitOk).acc = s.acc := rfl
@[simp] theorem State.commitOk_alen : (s.commitOk).alen = s.alen := rfl
@[simp] theorem State.commitOk_clen : (s.commitOk).clen = s.clen := rfl
@[simp] theorem State.commitOk_hkey : (s.commitOk).hkey = s.hkey := rfl
@[simp] theorem State.commitOk_lcmd : (s.commitOk).lcmd = s.lcmd := rfl
@[simp] theorem State.commitOk_rstn : (s.commitOk).rstn = s.rstn := rfl
@[simp] theorem State.commitOk_resp : (s.commitOk).resp = s.resp := rfl
@[simp] theorem State.commitOk_bceReqs : (s.commitOk).bceReqs = s.bceReqs := rfl
@[simp] theorem State.commitOk_bceAnswers : (s.commitOk).bceAnswers = s.bceAnswers := rfl
@[simp] theorem State.commitOk_bceTable : (s.commitOk).bceTable = s.bceTable := rfl
@[simp] theorem State.commitOk_inputs : (s.commitOk).inputs = s.inputs := rfl

/-! ### The error commit (R303) -/

@[simp] theorem State.commitError_busy (e : CmdError) : (s.commitError e).busy = false := rfl
@[simp] theorem State.commitError_err (e : CmdError) : (s.commitError e).err = true := rfl
@[simp] theorem State.commitError_zvalid (e : CmdError) : (s.commitError e).zvalid = s.zvalid := rfl
@[simp] theorem State.commitError_tagv (e : CmdError) : (s.commitError e).tagv = s.tagv := rfl
@[simp] theorem State.commitError_authOk (e : CmdError) : (s.commitError e).authOk = s.authOk := rfl
@[simp] theorem State.commitError_authFail (e : CmdError) : (s.commitError e).authFail = s.authFail := rfl
@[simp] theorem State.commitError_ctphase (e : CmdError) : (s.commitError e).ctphase = s.ctphase := rfl
@[simp] theorem State.commitError_short (e : CmdError) : (s.commitError e).short = s.short := rfl
@[simp] theorem State.commitError_errcode (e : CmdError) : (s.commitError e).errcode = e.code := rfl
@[simp] theorem State.commitError_doneIe (e : CmdError) : (s.commitError e).doneIe = s.doneIe := rfl
@[simp] theorem State.commitError_errIe (e : CmdError) : (s.commitError e).errIe = s.errIe := rfl
@[simp] theorem State.commitError_done (e : CmdError) : (s.commitError e).done = true := rfl
@[simp] theorem State.commitError_erri (e : CmdError) : (s.commitError e).erri = true := rfl
@[simp] theorem State.commitError_nonce (e : CmdError) : (s.commitError e).nonce = s.nonce := rfl
@[simp] theorem State.commitError_ctr (e : CmdError) : (s.commitError e).ctr = s.ctr := rfl
@[simp] theorem State.commitError_data (e : CmdError) : (s.commitError e).data = s.data := rfl
@[simp] theorem State.commitError_tagin (e : CmdError) : (s.commitError e).tagin = s.tagin := rfl
@[simp] theorem State.commitError_tag (e : CmdError) : (s.commitError e).tag = s.tag := rfl
@[simp] theorem State.commitError_acc (e : CmdError) : (s.commitError e).acc = s.acc := rfl
@[simp] theorem State.commitError_alen (e : CmdError) : (s.commitError e).alen = s.alen := rfl
@[simp] theorem State.commitError_clen (e : CmdError) : (s.commitError e).clen = s.clen := rfl
@[simp] theorem State.commitError_hkey (e : CmdError) : (s.commitError e).hkey = s.hkey := rfl
@[simp] theorem State.commitError_lcmd (e : CmdError) : (s.commitError e).lcmd = s.lcmd := rfl
@[simp] theorem State.commitError_rstn (e : CmdError) : (s.commitError e).rstn = s.rstn := rfl
@[simp] theorem State.commitError_resp (e : CmdError) : (s.commitError e).resp = s.resp := rfl
@[simp] theorem State.commitError_bceReqs (e : CmdError) : (s.commitError e).bceReqs = s.bceReqs := rfl
@[simp] theorem State.commitError_bceAnswers (e : CmdError) : (s.commitError e).bceAnswers = s.bceAnswers := rfl
@[simp] theorem State.commitError_bceTable (e : CmdError) : (s.commitError e).bceTable = s.bceTable := rfl
@[simp] theorem State.commitError_inputs (e : CmdError) : (s.commitError e).inputs = s.inputs := rfl

/-! ### Recording the BCE requests -/

@[simp] theorem State.noteReqs_busy (xs : List Block) : (s.noteReqs xs).busy = s.busy := rfl
@[simp] theorem State.noteReqs_err (xs : List Block) : (s.noteReqs xs).err = s.err := rfl
@[simp] theorem State.noteReqs_zvalid (xs : List Block) : (s.noteReqs xs).zvalid = s.zvalid := rfl
@[simp] theorem State.noteReqs_tagv (xs : List Block) : (s.noteReqs xs).tagv = s.tagv := rfl
@[simp] theorem State.noteReqs_authOk (xs : List Block) : (s.noteReqs xs).authOk = s.authOk := rfl
@[simp] theorem State.noteReqs_authFail (xs : List Block) : (s.noteReqs xs).authFail = s.authFail := rfl
@[simp] theorem State.noteReqs_ctphase (xs : List Block) : (s.noteReqs xs).ctphase = s.ctphase := rfl
@[simp] theorem State.noteReqs_short (xs : List Block) : (s.noteReqs xs).short = s.short := rfl
@[simp] theorem State.noteReqs_errcode (xs : List Block) : (s.noteReqs xs).errcode = s.errcode := rfl
@[simp] theorem State.noteReqs_doneIe (xs : List Block) : (s.noteReqs xs).doneIe = s.doneIe := rfl
@[simp] theorem State.noteReqs_errIe (xs : List Block) : (s.noteReqs xs).errIe = s.errIe := rfl
@[simp] theorem State.noteReqs_done (xs : List Block) : (s.noteReqs xs).done = s.done := rfl
@[simp] theorem State.noteReqs_erri (xs : List Block) : (s.noteReqs xs).erri = s.erri := rfl
@[simp] theorem State.noteReqs_nonce (xs : List Block) : (s.noteReqs xs).nonce = s.nonce := rfl
@[simp] theorem State.noteReqs_ctr (xs : List Block) : (s.noteReqs xs).ctr = s.ctr := rfl
@[simp] theorem State.noteReqs_data (xs : List Block) : (s.noteReqs xs).data = s.data := rfl
@[simp] theorem State.noteReqs_tagin (xs : List Block) : (s.noteReqs xs).tagin = s.tagin := rfl
@[simp] theorem State.noteReqs_tag (xs : List Block) : (s.noteReqs xs).tag = s.tag := rfl
@[simp] theorem State.noteReqs_acc (xs : List Block) : (s.noteReqs xs).acc = s.acc := rfl
@[simp] theorem State.noteReqs_alen (xs : List Block) : (s.noteReqs xs).alen = s.alen := rfl
@[simp] theorem State.noteReqs_clen (xs : List Block) : (s.noteReqs xs).clen = s.clen := rfl
@[simp] theorem State.noteReqs_hkey (xs : List Block) : (s.noteReqs xs).hkey = s.hkey := rfl
@[simp] theorem State.noteReqs_lcmd (xs : List Block) : (s.noteReqs xs).lcmd = s.lcmd := rfl
@[simp] theorem State.noteReqs_rstn (xs : List Block) : (s.noteReqs xs).rstn = s.rstn := rfl
@[simp] theorem State.noteReqs_resp (xs : List Block) : (s.noteReqs xs).resp = s.resp := rfl
@[simp] theorem State.noteReqs_bceReqs (xs : List Block) : (s.noteReqs xs).bceReqs = xs := rfl
@[simp] theorem State.noteReqs_bceAnswers (xs : List Block) : (s.noteReqs xs).bceAnswers = s.bceAnswers := rfl
@[simp] theorem State.noteReqs_bceTable (xs : List Block) : (s.noteReqs xs).bceTable = s.bceTable := rfl
@[simp] theorem State.noteReqs_inputs (xs : List Block) : (s.noteReqs xs).inputs = s.inputs := rfl

/-! ### The commit of a command without BCE calls (R306) -/

@[simp] theorem State.finish_busy : (s.finish).busy = false := rfl
@[simp] theorem State.finish_err : (s.finish).err = false := rfl
@[simp] theorem State.finish_zvalid : (s.finish).zvalid = s.zvalid := rfl
@[simp] theorem State.finish_tagv : (s.finish).tagv = s.tagv := rfl
@[simp] theorem State.finish_authOk : (s.finish).authOk = s.authOk := rfl
@[simp] theorem State.finish_authFail : (s.finish).authFail = s.authFail := rfl
@[simp] theorem State.finish_ctphase : (s.finish).ctphase = s.ctphase := rfl
@[simp] theorem State.finish_short : (s.finish).short = s.short := rfl
@[simp] theorem State.finish_errcode : (s.finish).errcode = 0 := rfl
@[simp] theorem State.finish_doneIe : (s.finish).doneIe = s.doneIe := rfl
@[simp] theorem State.finish_errIe : (s.finish).errIe = s.errIe := rfl
@[simp] theorem State.finish_done : (s.finish).done = true := rfl
@[simp] theorem State.finish_erri : (s.finish).erri = s.erri := rfl
@[simp] theorem State.finish_nonce : (s.finish).nonce = s.nonce := rfl
@[simp] theorem State.finish_ctr : (s.finish).ctr = s.ctr := rfl
@[simp] theorem State.finish_data : (s.finish).data = s.data := rfl
@[simp] theorem State.finish_tagin : (s.finish).tagin = s.tagin := rfl
@[simp] theorem State.finish_tag : (s.finish).tag = s.tag := rfl
@[simp] theorem State.finish_acc : (s.finish).acc = s.acc := rfl
@[simp] theorem State.finish_alen : (s.finish).alen = s.alen := rfl
@[simp] theorem State.finish_clen : (s.finish).clen = s.clen := rfl
@[simp] theorem State.finish_hkey : (s.finish).hkey = s.hkey := rfl
@[simp] theorem State.finish_lcmd : (s.finish).lcmd = s.lcmd := rfl
@[simp] theorem State.finish_rstn : (s.finish).rstn = s.rstn := rfl
@[simp] theorem State.finish_resp : (s.finish).resp = s.resp := rfl
@[simp] theorem State.finish_bceReqs : (s.finish).bceReqs = [] := rfl
@[simp] theorem State.finish_bceAnswers : (s.finish).bceAnswers = s.bceAnswers := rfl
@[simp] theorem State.finish_bceTable : (s.finish).bceTable = s.bceTable := rfl
@[simp] theorem State.finish_inputs : (s.finish).inputs = s.inputs := rfl

/-! ### The commit of a command refused by a check (R302, R303) -/

@[simp] theorem State.fail_busy (e : CmdError) : (s.fail e).busy = false := rfl
@[simp] theorem State.fail_err (e : CmdError) : (s.fail e).err = true := rfl
@[simp] theorem State.fail_zvalid (e : CmdError) : (s.fail e).zvalid = s.zvalid := rfl
@[simp] theorem State.fail_tagv (e : CmdError) : (s.fail e).tagv = s.tagv := rfl
@[simp] theorem State.fail_authOk (e : CmdError) : (s.fail e).authOk = s.authOk := rfl
@[simp] theorem State.fail_authFail (e : CmdError) : (s.fail e).authFail = s.authFail := rfl
@[simp] theorem State.fail_ctphase (e : CmdError) : (s.fail e).ctphase = s.ctphase := rfl
@[simp] theorem State.fail_short (e : CmdError) : (s.fail e).short = s.short := rfl
@[simp] theorem State.fail_errcode (e : CmdError) : (s.fail e).errcode = e.code := rfl
@[simp] theorem State.fail_doneIe (e : CmdError) : (s.fail e).doneIe = s.doneIe := rfl
@[simp] theorem State.fail_errIe (e : CmdError) : (s.fail e).errIe = s.errIe := rfl
@[simp] theorem State.fail_done (e : CmdError) : (s.fail e).done = true := rfl
@[simp] theorem State.fail_erri (e : CmdError) : (s.fail e).erri = true := rfl
@[simp] theorem State.fail_nonce (e : CmdError) : (s.fail e).nonce = s.nonce := rfl
@[simp] theorem State.fail_ctr (e : CmdError) : (s.fail e).ctr = s.ctr := rfl
@[simp] theorem State.fail_data (e : CmdError) : (s.fail e).data = s.data := rfl
@[simp] theorem State.fail_tagin (e : CmdError) : (s.fail e).tagin = s.tagin := rfl
@[simp] theorem State.fail_tag (e : CmdError) : (s.fail e).tag = s.tag := rfl
@[simp] theorem State.fail_acc (e : CmdError) : (s.fail e).acc = s.acc := rfl
@[simp] theorem State.fail_alen (e : CmdError) : (s.fail e).alen = s.alen := rfl
@[simp] theorem State.fail_clen (e : CmdError) : (s.fail e).clen = s.clen := rfl
@[simp] theorem State.fail_hkey (e : CmdError) : (s.fail e).hkey = s.hkey := rfl
@[simp] theorem State.fail_lcmd (e : CmdError) : (s.fail e).lcmd = s.lcmd := rfl
@[simp] theorem State.fail_rstn (e : CmdError) : (s.fail e).rstn = s.rstn := rfl
@[simp] theorem State.fail_resp (e : CmdError) : (s.fail e).resp = s.resp := rfl
@[simp] theorem State.fail_bceReqs (e : CmdError) : (s.fail e).bceReqs = [] := rfl
@[simp] theorem State.fail_bceAnswers (e : CmdError) : (s.fail e).bceAnswers = s.bceAnswers := rfl
@[simp] theorem State.fail_bceTable (e : CmdError) : (s.fail e).bceTable = s.bceTable := rfl
@[simp] theorem State.fail_inputs (e : CmdError) : (s.fail e).inputs = s.inputs := rfl

/-! ### Writing the key (R160, R165) -/

@[simp] theorem State.loadKey_busy (b : Block) : (s.loadKey b).busy = s.busy := rfl
@[simp] theorem State.loadKey_err (b : Block) : (s.loadKey b).err = s.err := rfl
@[simp] theorem State.loadKey_zvalid (b : Block) : (s.loadKey b).zvalid = true := rfl
@[simp] theorem State.loadKey_tagv (b : Block) : (s.loadKey b).tagv = s.tagv := rfl
@[simp] theorem State.loadKey_authOk (b : Block) : (s.loadKey b).authOk = s.authOk := rfl
@[simp] theorem State.loadKey_authFail (b : Block) : (s.loadKey b).authFail = s.authFail := rfl
@[simp] theorem State.loadKey_ctphase (b : Block) : (s.loadKey b).ctphase = s.ctphase := rfl
@[simp] theorem State.loadKey_short (b : Block) : (s.loadKey b).short = s.short := rfl
@[simp] theorem State.loadKey_errcode (b : Block) : (s.loadKey b).errcode = s.errcode := rfl
@[simp] theorem State.loadKey_doneIe (b : Block) : (s.loadKey b).doneIe = s.doneIe := rfl
@[simp] theorem State.loadKey_errIe (b : Block) : (s.loadKey b).errIe = s.errIe := rfl
@[simp] theorem State.loadKey_done (b : Block) : (s.loadKey b).done = s.done := rfl
@[simp] theorem State.loadKey_erri (b : Block) : (s.loadKey b).erri = s.erri := rfl
@[simp] theorem State.loadKey_nonce (b : Block) : (s.loadKey b).nonce = s.nonce := rfl
@[simp] theorem State.loadKey_ctr (b : Block) : (s.loadKey b).ctr = s.ctr := rfl
@[simp] theorem State.loadKey_data (b : Block) : (s.loadKey b).data = s.data := rfl
@[simp] theorem State.loadKey_tagin (b : Block) : (s.loadKey b).tagin = s.tagin := rfl
@[simp] theorem State.loadKey_tag (b : Block) : (s.loadKey b).tag = s.tag := rfl
@[simp] theorem State.loadKey_acc (b : Block) : (s.loadKey b).acc = s.acc := rfl
@[simp] theorem State.loadKey_alen (b : Block) : (s.loadKey b).alen = s.alen := rfl
@[simp] theorem State.loadKey_clen (b : Block) : (s.loadKey b).clen = s.clen := rfl
@[simp] theorem State.loadKey_hkey (b : Block) : (s.loadKey b).hkey = clr127 b := rfl
@[simp] theorem State.loadKey_lcmd (b : Block) : (s.loadKey b).lcmd = s.lcmd := rfl
@[simp] theorem State.loadKey_rstn (b : Block) : (s.loadKey b).rstn = s.rstn := rfl
@[simp] theorem State.loadKey_resp (b : Block) : (s.loadKey b).resp = s.resp := rfl
@[simp] theorem State.loadKey_bceReqs (b : Block) : (s.loadKey b).bceReqs = s.bceReqs := rfl
@[simp] theorem State.loadKey_bceAnswers (b : Block) : (s.loadKey b).bceAnswers = s.bceAnswers := rfl
@[simp] theorem State.loadKey_bceTable (b : Block) : (s.loadKey b).bceTable = s.bceTable := rfl
@[simp] theorem State.loadKey_inputs (b : Block) : (s.loadKey b).inputs = s.inputs := rfl

/-! ### MSG_INIT's assignments (R190) -/

@[simp] theorem State.startMessage_busy : (s.startMessage).busy = s.busy := rfl
@[simp] theorem State.startMessage_err : (s.startMessage).err = s.err := rfl
@[simp] theorem State.startMessage_zvalid : (s.startMessage).zvalid = s.zvalid := rfl
@[simp] theorem State.startMessage_tagv : (s.startMessage).tagv = false := rfl
@[simp] theorem State.startMessage_authOk : (s.startMessage).authOk = false := rfl
@[simp] theorem State.startMessage_authFail : (s.startMessage).authFail = false := rfl
@[simp] theorem State.startMessage_ctphase : (s.startMessage).ctphase = false := rfl
@[simp] theorem State.startMessage_short : (s.startMessage).short = false := rfl
@[simp] theorem State.startMessage_errcode : (s.startMessage).errcode = s.errcode := rfl
@[simp] theorem State.startMessage_doneIe : (s.startMessage).doneIe = s.doneIe := rfl
@[simp] theorem State.startMessage_errIe : (s.startMessage).errIe = s.errIe := rfl
@[simp] theorem State.startMessage_done : (s.startMessage).done = s.done := rfl
@[simp] theorem State.startMessage_erri : (s.startMessage).erri = s.erri := rfl
@[simp] theorem State.startMessage_nonce : (s.startMessage).nonce = s.nonce := rfl
@[simp] theorem State.startMessage_ctr : (s.startMessage).ctr = 1 := rfl
@[simp] theorem State.startMessage_data : (s.startMessage).data = s.data := rfl
@[simp] theorem State.startMessage_tagin : (s.startMessage).tagin = s.tagin := rfl
@[simp] theorem State.startMessage_tag : (s.startMessage).tag = 0 := rfl
@[simp] theorem State.startMessage_acc : (s.startMessage).acc = 0 := rfl
@[simp] theorem State.startMessage_alen : (s.startMessage).alen = 0 := rfl
@[simp] theorem State.startMessage_clen : (s.startMessage).clen = 0 := rfl
@[simp] theorem State.startMessage_hkey : (s.startMessage).hkey = s.hkey := rfl
@[simp] theorem State.startMessage_lcmd : (s.startMessage).lcmd = s.lcmd := rfl
@[simp] theorem State.startMessage_rstn : (s.startMessage).rstn = s.rstn := rfl
@[simp] theorem State.startMessage_resp : (s.startMessage).resp = s.resp := rfl
@[simp] theorem State.startMessage_bceReqs : (s.startMessage).bceReqs = s.bceReqs := rfl
@[simp] theorem State.startMessage_bceAnswers : (s.startMessage).bceAnswers = s.bceAnswers := rfl
@[simp] theorem State.startMessage_bceTable : (s.startMessage).bceTable = s.bceTable := rfl
@[simp] theorem State.startMessage_inputs : (s.startMessage).inputs = s.inputs := rfl

/-! ### One chunk absorbed (R195, R202) -/

@[simp] theorem State.absorb_busy (n : BitVec 5) : (s.absorb n).busy = s.busy := rfl
@[simp] theorem State.absorb_err (n : BitVec 5) : (s.absorb n).err = s.err := rfl
@[simp] theorem State.absorb_zvalid (n : BitVec 5) : (s.absorb n).zvalid = s.zvalid := rfl
@[simp] theorem State.absorb_tagv (n : BitVec 5) : (s.absorb n).tagv = s.tagv := rfl
@[simp] theorem State.absorb_authOk (n : BitVec 5) : (s.absorb n).authOk = s.authOk := rfl
@[simp] theorem State.absorb_authFail (n : BitVec 5) : (s.absorb n).authFail = s.authFail := rfl
@[simp] theorem State.absorb_ctphase (n : BitVec 5) : (s.absorb n).ctphase = s.ctphase := rfl
@[simp] theorem State.absorb_short (n : BitVec 5) : (s.absorb n).short = decide (n.toNat < 12) := rfl
@[simp] theorem State.absorb_errcode (n : BitVec 5) : (s.absorb n).errcode = s.errcode := rfl
@[simp] theorem State.absorb_doneIe (n : BitVec 5) : (s.absorb n).doneIe = s.doneIe := rfl
@[simp] theorem State.absorb_errIe (n : BitVec 5) : (s.absorb n).errIe = s.errIe := rfl
@[simp] theorem State.absorb_done (n : BitVec 5) : (s.absorb n).done = s.done := rfl
@[simp] theorem State.absorb_erri (n : BitVec 5) : (s.absorb n).erri = s.erri := rfl
@[simp] theorem State.absorb_nonce (n : BitVec 5) : (s.absorb n).nonce = s.nonce := rfl
@[simp] theorem State.absorb_ctr (n : BitVec 5) : (s.absorb n).ctr = s.ctr := rfl
@[simp] theorem State.absorb_data (n : BitVec 5) : (s.absorb n).data = s.data := rfl
@[simp] theorem State.absorb_tagin (n : BitVec 5) : (s.absorb n).tagin = s.tagin := rfl
@[simp] theorem State.absorb_tag (n : BitVec 5) : (s.absorb n).tag = s.tag := rfl
@[simp] theorem State.absorb_acc (n : BitVec 5) : (s.absorb n).acc = hstep s.acc (chunkWord s.data n.toNat) s.hkey := rfl
@[simp] theorem State.absorb_alen (n : BitVec 5) : (s.absorb n).alen = s.alen := rfl
@[simp] theorem State.absorb_clen (n : BitVec 5) : (s.absorb n).clen = s.clen := rfl
@[simp] theorem State.absorb_hkey (n : BitVec 5) : (s.absorb n).hkey = s.hkey := rfl
@[simp] theorem State.absorb_lcmd (n : BitVec 5) : (s.absorb n).lcmd = s.lcmd := rfl
@[simp] theorem State.absorb_rstn (n : BitVec 5) : (s.absorb n).rstn = s.rstn := rfl
@[simp] theorem State.absorb_resp (n : BitVec 5) : (s.absorb n).resp = s.resp := rfl
@[simp] theorem State.absorb_bceReqs (n : BitVec 5) : (s.absorb n).bceReqs = s.bceReqs := rfl
@[simp] theorem State.absorb_bceAnswers (n : BitVec 5) : (s.absorb n).bceAnswers = s.bceAnswers := rfl
@[simp] theorem State.absorb_bceTable (n : BitVec 5) : (s.absorb n).bceTable = s.bceTable := rfl
@[simp] theorem State.absorb_inputs (n : BitVec 5) : (s.absorb n).inputs = s.inputs := rfl

/-! ### CTR_XOR's assignments (R222) -/

@[simp] theorem State.xorKeystream_busy (n : BitVec 5) (k : Block) : (s.xorKeystream n k).busy = s.busy := rfl
@[simp] theorem State.xorKeystream_err (n : BitVec 5) (k : Block) : (s.xorKeystream n k).err = s.err := rfl
@[simp] theorem State.xorKeystream_zvalid (n : BitVec 5) (k : Block) : (s.xorKeystream n k).zvalid = s.zvalid := rfl
@[simp] theorem State.xorKeystream_tagv (n : BitVec 5) (k : Block) : (s.xorKeystream n k).tagv = s.tagv := rfl
@[simp] theorem State.xorKeystream_authOk (n : BitVec 5) (k : Block) : (s.xorKeystream n k).authOk = s.authOk := rfl
@[simp] theorem State.xorKeystream_authFail (n : BitVec 5) (k : Block) : (s.xorKeystream n k).authFail = s.authFail := rfl
@[simp] theorem State.xorKeystream_ctphase (n : BitVec 5) (k : Block) : (s.xorKeystream n k).ctphase = s.ctphase := rfl
@[simp] theorem State.xorKeystream_short (n : BitVec 5) (k : Block) : (s.xorKeystream n k).short = s.short := rfl
@[simp] theorem State.xorKeystream_errcode (n : BitVec 5) (k : Block) : (s.xorKeystream n k).errcode = s.errcode := rfl
@[simp] theorem State.xorKeystream_doneIe (n : BitVec 5) (k : Block) : (s.xorKeystream n k).doneIe = s.doneIe := rfl
@[simp] theorem State.xorKeystream_errIe (n : BitVec 5) (k : Block) : (s.xorKeystream n k).errIe = s.errIe := rfl
@[simp] theorem State.xorKeystream_done (n : BitVec 5) (k : Block) : (s.xorKeystream n k).done = s.done := rfl
@[simp] theorem State.xorKeystream_erri (n : BitVec 5) (k : Block) : (s.xorKeystream n k).erri = s.erri := rfl
@[simp] theorem State.xorKeystream_nonce (n : BitVec 5) (k : Block) : (s.xorKeystream n k).nonce = s.nonce := rfl
@[simp] theorem State.xorKeystream_ctr (n : BitVec 5) (k : Block) : (s.xorKeystream n k).ctr = s.ctr + 1 := rfl
@[simp] theorem State.xorKeystream_data (n : BitVec 5) (k : Block) : (s.xorKeystream n k).data = xorLanes s.data k n.toNat := rfl
@[simp] theorem State.xorKeystream_tagin (n : BitVec 5) (k : Block) : (s.xorKeystream n k).tagin = s.tagin := rfl
@[simp] theorem State.xorKeystream_tag (n : BitVec 5) (k : Block) : (s.xorKeystream n k).tag = s.tag := rfl
@[simp] theorem State.xorKeystream_acc (n : BitVec 5) (k : Block) : (s.xorKeystream n k).acc = s.acc := rfl
@[simp] theorem State.xorKeystream_alen (n : BitVec 5) (k : Block) : (s.xorKeystream n k).alen = s.alen := rfl
@[simp] theorem State.xorKeystream_clen (n : BitVec 5) (k : Block) : (s.xorKeystream n k).clen = s.clen := rfl
@[simp] theorem State.xorKeystream_hkey (n : BitVec 5) (k : Block) : (s.xorKeystream n k).hkey = s.hkey := rfl
@[simp] theorem State.xorKeystream_lcmd (n : BitVec 5) (k : Block) : (s.xorKeystream n k).lcmd = s.lcmd := rfl
@[simp] theorem State.xorKeystream_rstn (n : BitVec 5) (k : Block) : (s.xorKeystream n k).rstn = s.rstn := rfl
@[simp] theorem State.xorKeystream_resp (n : BitVec 5) (k : Block) : (s.xorKeystream n k).resp = s.resp := rfl
@[simp] theorem State.xorKeystream_bceReqs (n : BitVec 5) (k : Block) : (s.xorKeystream n k).bceReqs = s.bceReqs := rfl
@[simp] theorem State.xorKeystream_bceAnswers (n : BitVec 5) (k : Block) : (s.xorKeystream n k).bceAnswers = s.bceAnswers := rfl
@[simp] theorem State.xorKeystream_bceTable (n : BitVec 5) (k : Block) : (s.xorKeystream n k).bceTable = s.bceTable := rfl
@[simp] theorem State.xorKeystream_inputs (n : BitVec 5) (k : Block) : (s.xorKeystream n k).inputs = s.inputs := rfl

/-! ### TAG_GEN's assignments (R245) -/

@[simp] theorem State.putTag_busy (r1 r2 : Block) : (s.putTag r1 r2).busy = s.busy := rfl
@[simp] theorem State.putTag_err (r1 r2 : Block) : (s.putTag r1 r2).err = s.err := rfl
@[simp] theorem State.putTag_zvalid (r1 r2 : Block) : (s.putTag r1 r2).zvalid = s.zvalid := rfl
@[simp] theorem State.putTag_tagv (r1 r2 : Block) : (s.putTag r1 r2).tagv = true := rfl
@[simp] theorem State.putTag_authOk (r1 r2 : Block) : (s.putTag r1 r2).authOk = false := rfl
@[simp] theorem State.putTag_authFail (r1 r2 : Block) : (s.putTag r1 r2).authFail = false := rfl
@[simp] theorem State.putTag_ctphase (r1 r2 : Block) : (s.putTag r1 r2).ctphase = s.ctphase := rfl
@[simp] theorem State.putTag_short (r1 r2 : Block) : (s.putTag r1 r2).short = s.short := rfl
@[simp] theorem State.putTag_errcode (r1 r2 : Block) : (s.putTag r1 r2).errcode = s.errcode := rfl
@[simp] theorem State.putTag_doneIe (r1 r2 : Block) : (s.putTag r1 r2).doneIe = s.doneIe := rfl
@[simp] theorem State.putTag_errIe (r1 r2 : Block) : (s.putTag r1 r2).errIe = s.errIe := rfl
@[simp] theorem State.putTag_done (r1 r2 : Block) : (s.putTag r1 r2).done = s.done := rfl
@[simp] theorem State.putTag_erri (r1 r2 : Block) : (s.putTag r1 r2).erri = s.erri := rfl
@[simp] theorem State.putTag_nonce (r1 r2 : Block) : (s.putTag r1 r2).nonce = s.nonce := rfl
@[simp] theorem State.putTag_ctr (r1 r2 : Block) : (s.putTag r1 r2).ctr = s.ctr := rfl
@[simp] theorem State.putTag_data (r1 r2 : Block) : (s.putTag r1 r2).data = s.data := rfl
@[simp] theorem State.putTag_tagin (r1 r2 : Block) : (s.putTag r1 r2).tagin = s.tagin := rfl
@[simp] theorem State.putTag_tag (r1 r2 : Block) : (s.putTag r1 r2).tag = r1 ^^^ r2 := rfl
@[simp] theorem State.putTag_acc (r1 r2 : Block) : (s.putTag r1 r2).acc = s.acc := rfl
@[simp] theorem State.putTag_alen (r1 r2 : Block) : (s.putTag r1 r2).alen = s.alen := rfl
@[simp] theorem State.putTag_clen (r1 r2 : Block) : (s.putTag r1 r2).clen = s.clen := rfl
@[simp] theorem State.putTag_hkey (r1 r2 : Block) : (s.putTag r1 r2).hkey = s.hkey := rfl
@[simp] theorem State.putTag_lcmd (r1 r2 : Block) : (s.putTag r1 r2).lcmd = s.lcmd := rfl
@[simp] theorem State.putTag_rstn (r1 r2 : Block) : (s.putTag r1 r2).rstn = s.rstn := rfl
@[simp] theorem State.putTag_resp (r1 r2 : Block) : (s.putTag r1 r2).resp = s.resp := rfl
@[simp] theorem State.putTag_bceReqs (r1 r2 : Block) : (s.putTag r1 r2).bceReqs = s.bceReqs := rfl
@[simp] theorem State.putTag_bceAnswers (r1 r2 : Block) : (s.putTag r1 r2).bceAnswers = s.bceAnswers := rfl
@[simp] theorem State.putTag_bceTable (r1 r2 : Block) : (s.putTag r1 r2).bceTable = s.bceTable := rfl
@[simp] theorem State.putTag_inputs (r1 r2 : Block) : (s.putTag r1 r2).inputs = s.inputs := rfl

/-! ### CLEAR's assignments (R273) -/

@[simp] theorem State.erase_busy : (s.erase).busy = s.busy := rfl
@[simp] theorem State.erase_err : (s.erase).err = s.err := rfl
@[simp] theorem State.erase_zvalid : (s.erase).zvalid = false := rfl
@[simp] theorem State.erase_tagv : (s.erase).tagv = false := rfl
@[simp] theorem State.erase_authOk : (s.erase).authOk = false := rfl
@[simp] theorem State.erase_authFail : (s.erase).authFail = false := rfl
@[simp] theorem State.erase_ctphase : (s.erase).ctphase = false := rfl
@[simp] theorem State.erase_short : (s.erase).short = false := rfl
@[simp] theorem State.erase_errcode : (s.erase).errcode = s.errcode := rfl
@[simp] theorem State.erase_doneIe : (s.erase).doneIe = s.doneIe := rfl
@[simp] theorem State.erase_errIe : (s.erase).errIe = s.errIe := rfl
@[simp] theorem State.erase_done : (s.erase).done = s.done := rfl
@[simp] theorem State.erase_erri : (s.erase).erri = s.erri := rfl
@[simp] theorem State.erase_nonce : (s.erase).nonce = 0 := rfl
@[simp] theorem State.erase_ctr : (s.erase).ctr = 1 := rfl
@[simp] theorem State.erase_data : (s.erase).data = 0 := rfl
@[simp] theorem State.erase_tagin : (s.erase).tagin = 0 := rfl
@[simp] theorem State.erase_tag : (s.erase).tag = 0 := rfl
@[simp] theorem State.erase_acc : (s.erase).acc = 0 := rfl
@[simp] theorem State.erase_alen : (s.erase).alen = 0 := rfl
@[simp] theorem State.erase_clen : (s.erase).clen = 0 := rfl
@[simp] theorem State.erase_hkey : (s.erase).hkey = 0 := rfl
@[simp] theorem State.erase_lcmd : (s.erase).lcmd = s.lcmd := rfl
@[simp] theorem State.erase_rstn : (s.erase).rstn = s.rstn := rfl
@[simp] theorem State.erase_resp : (s.erase).resp = s.resp := rfl
@[simp] theorem State.erase_bceReqs : (s.erase).bceReqs = s.bceReqs := rfl
@[simp] theorem State.erase_bceAnswers : (s.erase).bceAnswers = s.bceAnswers := rfl
@[simp] theorem State.erase_bceTable : (s.erase).bceTable = s.bceTable := rfl
@[simp] theorem State.erase_inputs : (s.erase).inputs = s.inputs := rfl

end Sys2Proof.Machine
end

