-- ==== Sys2Proof/Laws/Ops.lean ====
section
/-! SUPPORT. One lemma for each shared operation that says everything it can do: the two commits, the BCE calls, the window's
writes, the core's turn and the step. -/

namespace Sys2Proof.Machine

theorem State.finish_eq_committed (s : State) : s.finish = s.committed [] := rfl

theorem State.fail_eq_failedWith (s : State) (e : CmdError) : s.fail e = s.failedWith e.code [] := rfl

/-- The states a command with one BCE call ends in (R120, R366). -/
theorem State.viaBce_cases (s : State) (x : Block) (k : Block → State) :
    (s.bceAnswers = false ∧ s.viaBce x k = s) ∨
    (s.bceAnswers = true ∧ s.bce x = .err ∧ s.viaBce x k = s.failedWith 7 [x]) ∨
    (s.bceAnswers = true ∧ ∃ y, s.bce x = .ok y ∧ s.viaBce x k = (k y).committed [x]) := by
  cases hb : s.bceAnswers
  · exact .inl ⟨rfl, by simp [State.viaBce, hb]⟩
  · cases hx : s.bce x with
    | err => exact .inr (.inl ⟨rfl, rfl, by simp only [State.viaBce, hb, hx]; rfl⟩)
    | ok y => exact .inr (.inr ⟨rfl, y, rfl, by simp only [State.viaBce, hb, hx]; rfl⟩)

/-- The states a command with two BCE calls ends in: no second call after an `err` (R120, R245). -/
theorem State.viaBce2_cases (s : State) (x1 x2 : Block) (k : Block → Block → State) :
    (s.bceAnswers = false ∧ s.viaBce2 x1 x2 k = s) ∨
    (s.bceAnswers = true ∧ s.bce x1 = .err ∧ s.viaBce2 x1 x2 k = s.failedWith 7 [x1]) ∨
    (s.bceAnswers = true ∧ (∃ y1, s.bce x1 = .ok y1) ∧ s.bce x2 = .err ∧
      s.viaBce2 x1 x2 k = s.failedWith 7 [x1, x2]) ∨
    (s.bceAnswers = true ∧ ∃ y1 y2, s.bce x1 = .ok y1 ∧ s.bce x2 = .ok y2 ∧
      s.viaBce2 x1 x2 k = (k y1 y2).committed [x1, x2]) := by
  cases hb : s.bceAnswers
  · exact .inl ⟨rfl, by simp [State.viaBce2, hb]⟩
  · cases h1 : s.bce x1 with
    | err => exact .inr (.inl ⟨rfl, rfl, by simp only [State.viaBce2, hb, h1]; rfl⟩)
    | ok y1 =>
      cases h2 : s.bce x2 with
      | err => exact .inr (.inr (.inl ⟨rfl, ⟨y1, rfl⟩, rfl, by simp only [State.viaBce2, hb, h1, h2]; rfl⟩))
      | ok y2 =>
        exact .inr (.inr (.inr ⟨rfl, y1, y2, rfl, rfl, by simp only [State.viaBce2, hb, h1, h2]; rfl⟩))

/-- The BCE function depends on its known answers alone. -/
theorem State.bce_congr {s t : State} (h : t.bceTable = s.bceTable) (x : Block) : t.bce x = s.bce x := by
  simp only [State.bce, h]

/-- A bus write either is refused and changes nothing or stores into the register at the offset (R102, R104). -/
theorem State.regWrite_cases (s : State) (off : BitVec 12) (v : Word) (strb : BitVec 4) :
    s.regWrite off v strb = (s, .error) ∨
    ∃ r, regAt off = some r ∧ s.writeRefused r strb = false ∧ s.regWrite off v strb = (s.store r v, .written) := by
  cases hr : regAt off with
  | none => exact .inl (by simp only [State.regWrite, hr])
  | some r =>
    cases hw : s.writeRefused r strb
    · exact .inr ⟨r, rfl, hw, by simp [State.regWrite, hr, hw]⟩
    · exact .inl (by simp [State.regWrite, hr, hw])

/-- What the core's turn can be (R306, R350). -/
theorem coreTurn_cases (s : State) :
    ((s.rstn = false ∨ s.busy = false) ∧ coreTurn s = .next s) ∨
    (s.rstn = true ∧ s.busy = true ∧ ∃ i, decode s.lcmd = .cmd i ∧ coreTurn s = exec i s) ∨
    (s.rstn = true ∧ s.busy = true ∧ ∃ e, decode s.lcmd = .bad e ∧ coreTurn s = .next (s.failedWith e.code [])) := by
  cases hr : s.rstn
  · exact .inl ⟨.inl rfl, by simp [coreTurn, hr]⟩
  · cases hb : s.busy
    · exact .inl ⟨.inr rfl, by simp [coreTurn, hb]⟩
    · cases hd : decode s.lcmd with
      | cmd i => exact .inr (.inl ⟨rfl, rfl, i, rfl, by simp [coreTurn, hr, hb, hd]⟩)
      | bad e => exact .inr (.inr ⟨rfl, rfl, e, rfl, by simp [coreTurn, hr, hb, hd, State.fail_eq_failedWith]⟩)

/-- A step is the core's turn when no event waits, and the next event otherwise (R112). -/
theorem step_of_no_input {s : State} (h : s.inputs = []) : step s = coreTurn s := by
  simp only [step, move, h]

theorem step_of_input {s : State} {e : Input} {rest : List Input} (h : s.inputs = e :: rest) :
    step s = takeInput e { s with inputs := rest } := by
  simp only [step, move, h]

end Sys2Proof.Machine
end

