-- ==== Sys2Proof/Laws/Exec.lean ====
section
/-! SUPPORT. What a command can do, said once: it is refused by a check, or it completes without the BCE, or it waits for the BCE,
or a BCE call fails, or it completes with all its BCE calls answered (60_exceptions.md R302, R306; 20_memory.md R120). -/

namespace Sys2Proof.Machine

theorem chunkLenOk_eq (n : BitVec 5) : lengthInRange 4 n.toNat = chunkLenOk n ∧ lengthInRange 5 n.toNat = chunkLenOk n := by
  revert n
  decide

theorem blockLenOk_eq (n : BitVec 5) : lengthInRange 6 n.toNat = blockLenOk n := by
  revert n
  decide

/-- The ways a command with BCE calls, passed by its checks, ends. -/
def EndsByCalls (s : State) (calls : List Block) (o : Host.Outcome State Fault Refusal) : Prop :=
  (s.bceAnswers = false ∧ o = .next s) ∨
  (s.bceAnswers = true ∧ ∃ pre x post, calls = pre ++ x :: post ∧ s.bce x = .err ∧
    (∀ z ∈ pre, ∃ y, s.bce z = .ok y) ∧ o = .next (s.failedWith 7 (pre ++ [x]))) ∨
  (s.bceAnswers = true ∧ (∀ z ∈ calls, ∃ y, s.bce z = .ok y) ∧
    ∃ t : State, t.erri = s.erri ∧ o = .next (t.committed calls))

theorem viaBce_ends (s : State) (x : Block) (k : Block → State) (hk : ∀ y, (k y).erri = s.erri) :
    EndsByCalls s [x] (.next (s.viaBce x k)) := by
  obtain ⟨h, e⟩ | ⟨h, h1, e⟩ | ⟨h, y, h1, e⟩ := s.viaBce_cases x k
  · exact .inl ⟨h, by rw [e]⟩
  · exact .inr (.inl ⟨h, [], x, [], rfl, h1, by simp, by rw [e]; rfl⟩)
  · exact .inr (.inr ⟨h, by simp [h1], k y, hk y, by rw [e]⟩)

theorem viaBce2_ends (s : State) (x1 x2 : Block) (k : Block → Block → State)
    (hk : ∀ y1 y2, (k y1 y2).erri = s.erri) : EndsByCalls s [x1, x2] (.next (s.viaBce2 x1 x2 k)) := by
  obtain ⟨h, e⟩ | ⟨h, h1, e⟩ | ⟨h, ⟨y1, h1⟩, h2, e⟩ | ⟨h, y1, y2, h1, h2, e⟩ := s.viaBce2_cases x1 x2 k
  · exact .inl ⟨h, by rw [e]⟩
  · exact .inr (.inl ⟨h, [], x1, [x2], rfl, h1, by simp, by rw [e]; rfl⟩)
  · exact .inr (.inl ⟨h, [x1], x2, [], rfl, h2, by simp [h1], by rw [e]; rfl⟩)
  · exact .inr (.inr ⟨h, by simp [h1, h2], k y1 y2, hk y1 y2, by rw [e]⟩)

theorem State.judgeTag_erri (s : State) (r1 r2 : Block) : (s.judgeTag r1 r2).erri = s.erri := by
  unfold State.judgeTag
  simp only
  split <;> rfl

/-- What `exec` can answer. -/
theorem exec_cases (i : Instr) (s : State) :
    (∃ e, refusedBy i s = some e ∧ exec i s = .next (s.failedWith e.code [])) ∨
    (refusedBy i s = none ∧ bceCalls i s = [] ∧ ∃ t : State, t.erri = s.erri ∧ exec i s = .next (t.committed [])) ∨
    (refusedBy i s = none ∧ bceCalls i s ≠ [] ∧ EndsByCalls s (bceCalls i s) (exec i s)) := by
  cases i with
  | nop => exact .inr (.inl ⟨rfl, rfl, s, rfl, rfl⟩)
  | loadZ => exact .inr (.inl ⟨rfl, rfl, s.loadKey s.data, rfl, rfl⟩)
  | msgInit => exact .inr (.inl ⟨rfl, rfl, s.startMessage, rfl, rfl⟩)
  | clear => exact .inr (.inl ⟨rfl, rfl, s.erase, rfl, rfl⟩)
  | deriveZ => exact .inr (.inr ⟨rfl, by simp [bceCalls], viaBce_ends _ _ _ fun _ => rfl⟩)
  | tagGen => exact .inr (.inr ⟨rfl, by simp [bceCalls], viaBce2_ends _ _ _ _ fun _ _ => rfl⟩)
  | tagCheck => exact .inr (.inr ⟨rfl, by simp [bceCalls], viaBce2_ends _ _ _ _ fun _ _ => s.judgeTag_erri _ _⟩)
  | ctrXor n =>
    cases h1 : blockLenOk n
    · exact .inl ⟨.badLen, by simp only [refusedBy, blockLenOk_eq, h1]; rfl, by simp only [exec, execCtrXor, h1]; rfl⟩
    · by_cases h2 : s.ctr = 0
      · exact .inl ⟨.ctrZero, by simp only [refusedBy, blockLenOk_eq, h1, h2]; rfl,
          by simp only [exec, execCtrXor, h1, h2]; rfl⟩
      · refine .inr (.inr ⟨by simp only [refusedBy, blockLenOk_eq, h1, h2]; rfl, by simp [bceCalls], ?_⟩)
        simp only [exec, execCtrXor, h1, if_neg h2]
        exact viaBce_ends _ _ _ fun _ => rfl
  | hashAad n =>
    cases h1 : chunkLenOk n
    · exact .inl ⟨.badLen, by simp only [refusedBy, chunkLenOk_eq, h1]; rfl, by simp only [exec, execHashAad, h1]; rfl⟩
    · cases h2 : s.zvalid
      · exact .inl ⟨.noKey, by simp only [refusedBy, chunkLenOk_eq, h1, h2]; rfl,
          by simp only [exec, execHashAad, h1, h2]; rfl⟩
      · cases h3 : s.ctphase || s.short
        · exact .inr (.inl ⟨by simp only [refusedBy, chunkLenOk_eq, h1, h2, h3]; rfl, rfl,
            { s.absorb n with alen := s.alen + n.setWidth 64 }, rfl, by simp only [exec, execHashAad, h1, h2, h3]; rfl⟩)
        · exact .inl ⟨.order, by simp only [refusedBy, chunkLenOk_eq, h1, h2, h3]; rfl,
            by simp only [exec, execHashAad, h1, h2, h3]; rfl⟩
  | hashCt n =>
    cases h1 : chunkLenOk n
    · exact .inl ⟨.badLen, by simp only [refusedBy, chunkLenOk_eq, h1]; rfl, by simp only [exec, execHashCt, h1]; rfl⟩
    · cases h2 : s.zvalid
      · exact .inl ⟨.noKey, by simp only [refusedBy, chunkLenOk_eq, h1, h2]; rfl,
          by simp only [exec, execHashCt, h1, h2]; rfl⟩
      · cases h3 : s.ctphase && s.short
        · exact .inr (.inl ⟨by simp only [refusedBy, chunkLenOk_eq, h1, h2, h3]; rfl, rfl,
            { s.absorb n with clen := s.clen + n.setWidth 64, ctphase := true }, rfl,
            by simp only [exec, execHashCt, h1, h2, h3]; rfl⟩)
        · exact .inl ⟨.order, by simp only [refusedBy, chunkLenOk_eq, h1, h2, h3]; rfl,
            by simp only [exec, execHashCt, h1, h2, h3]; rfl⟩

end Sys2Proof.Machine
end

