-- ==== Sys2Proof/Laws/Operands.lean ====
section
/-! SUPPORT. What the byte lanes and the folds give: each shared operand function once, for later proofs to cite. -/

namespace Sys2Proof.Machine

theorem byte_getLsbD (b : Block) (i j : Nat) (hj : j < 8) : (byte b i).getLsbD j = b.getLsbD (8 * (15 - i) + j) := by
  simp [byte, hj]

/-- A block is determined by its sixteen bytes. -/
theorem block_ext_bytes {a b : Block} (h : ∀ i, i < 16 → byte a i = byte b i) : a = b := by
  apply BitVec.eq_of_getLsbD_eq
  intro k hk
  have hi := h (15 - k / 8) (by omega)
  have ha := byte_getLsbD a (15 - k / 8) (k % 8) (Nat.mod_lt _ (by decide))
  have hb := byte_getLsbD b (15 - k / 8) (k % 8) (Nat.mod_lt _ (by decide))
  have e : 8 * (15 - (15 - k / 8)) + k % 8 = k := by omega
  rw [e] at ha hb
  rw [← ha, ← hb, hi]

/-- Byte i of the block built from `f` is `f i`. -/
@[simp] theorem byte_ofBytes (f : Nat → Byte) {i : Nat} (hi : i < 16) : byte (ofBytes f) i = f i := by
  apply BitVec.eq_of_getLsbD_eq
  intro j hj
  rw [byte_getLsbD _ _ _ hj]
  interval_cases i <;> simp only [ofBytes, BitVec.getLsbD_append] <;>
    repeat' first
      | rw [if_pos (by omega)]
      | rw [if_neg (by omega)]
  all_goals exact congrArg _ (by omega)

/-- The chunk word, byte by byte (R135). -/
theorem byte_chunkWord (d : Block) (n : Nat) {i : Nat} (hi : i < 16) :
    byte (chunkWord d n) i = if i < 4 then 0 else if i - 4 < n then byte d (i - 4) else 0 :=
  byte_ofBytes _ hi

/-- The lanes of CTR_XOR, byte by byte (R223). -/
theorem byte_xorLanes (d k : Block) (n : Nat) {i : Nat} (hi : i < 16) :
    byte (xorLanes d k n) i = if i < n then byte d i ^^^ byte k i else byte d i :=
  byte_ofBytes _ hi

/-- `clr127` is reduction modulo 2^127 (R12). -/
theorem toNat_clr127 (b : Block) : (clr127 b).toNat = b.toNat % 2 ^ 127 := by
  simp only [clr127, BitVec.toNat_setWidth, BitVec.extractLsb'_toNat, Nat.shiftRight_zero]
  omega

/-- The Mersenne fold keeps the residue and stays at most 2^127 (R181). -/
theorem toNat_mersenneFold (s : Block) :
    (mersenneFold s).toNat = s.toNat % 2 ^ 127 + s.toNat / 2 ^ 127 := by
  simp only [mersenneFold, BitVec.toNat_add, BitVec.toNat_setWidth, BitVec.extractLsb'_toNat,
    Nat.shiftRight_eq_div_pow, pow_zero, Nat.div_one, pow_one]
  have hs := s.isLt
  have hq : s.toNat / 2 ^ 127 < 2 := by omega
  have hr : s.toNat % 2 ^ 127 < 2 ^ 127 := Nat.mod_lt _ (by decide)
  rw [Nat.mod_eq_of_lt hq, Nat.mod_eq_of_lt (a := s.toNat % 2 ^ 127) (by omega),
    Nat.mod_eq_of_lt (a := s.toNat / 2 ^ 127) (by omega), Nat.mod_eq_of_lt (by omega)]

/-- The conditional subtract makes a folded value canonical (R181, R183). -/
theorem toNat_condSubP (t : Block) (h : t.toNat ≤ 2 ^ 127) : (condSubP t).toNat = t.toNat % modulusP := by
  have hp : pBlock.toNat = 2 ^ 127 - 1 := by decide
  unfold condSubP modulusP
  split
  · rename_i hle
    have hle : pBlock.toNat ≤ t.toNat := BitVec.le_def.mp hle
    rw [BitVec.toNat_sub_of_le hle, hp]
    omega
  · rename_i hle
    have hle : ¬ pBlock.toNat ≤ t.toNat := fun c => hle (BitVec.le_def.mpr c)
    omega

end Sys2Proof.Machine
end

