-- ==== Sys2Proof/Laws/Flags.lean ====
section
/-! SUPPORT. The tag comparison and the length field, each by what it means (43_tag_assembly.md R240, R250). -/

namespace Sys2Proof.Machine

theorem foldl_or_eq_zero (f : Nat → Byte) (l : List Nat) (a : Byte) :
    l.foldl (fun d i => d ||| f i) a = 0 ↔ a = 0 ∧ ∀ i ∈ l, f i = 0 := by
  induction l generalizing a with
  | nil => simp
  | cons x xs ih =>
    rw [List.foldl_cons, ih]
    simp [and_assoc]

/-- The accumulated difference is 0 exactly when the tags are equal (R250). -/
theorem tagDiff_eq_zero (t u : Block) : tagDiff t u = 0 ↔ t = u := by
  unfold tagDiff
  rw [foldl_or_eq_zero]
  constructor
  · rintro ⟨-, h⟩
    exact block_ext_bytes fun i hi => BitVec.xor_eq_zero_iff.mp (h i (List.mem_range.mpr hi))
  · rintro rfl
    exact ⟨rfl, fun i _ => BitVec.xor_self⟩

/-- L = ALEN · 2^64 + CLEN (R138). -/
theorem toNat_lengthField (alen clen : BitVec 64) : (lengthField alen clen).toNat = alen.toNat * 2 ^ 64 + clen.toNat := by
  unfold lengthField
  rw [BitVec.toNat_append, ← Nat.shiftLeft_add_eq_or_of_lt clen.isLt, Nat.shiftLeft_eq]

end Sys2Proof.Machine
end

