-- ==== Sys2Proof/Laws/PerInstr.lean ====
section
/-! SUPPORT. Statements for every command, one lemma per constructor: the fields of its command word (30_encoding.md R130). -/

namespace Sys2Proof.Laws.WordFields

/-- The command word holds the command's OP and NBYTES, and RSVD = 0. -/
abbrev Statement (i : Instr) : Prop :=
  opField (encode i) = opcodeOf i ∧ nbytesField (encode i) = nbytesOf i ∧ rsvdField (encode i) = 0

theorem nop : Statement .nop := by decide
theorem deriveZ : Statement .deriveZ := by decide
theorem loadZ : Statement .loadZ := by decide
theorem msgInit : Statement .msgInit := by decide

theorem hashAad (n : BitVec 5) : Statement (.hashAad n) := by
  revert n
  decide
theorem hashCt (n : BitVec 5) : Statement (.hashCt n) := by
  revert n
  decide
theorem ctrXor (n : BitVec 5) : Statement (.ctrXor n) := by
  revert n
  decide
theorem tagGen : Statement .tagGen := by decide
theorem tagCheck : Statement .tagCheck := by decide
theorem clear : Statement .clear := by decide

end Sys2Proof.Laws.WordFields
end

