-- ==== Sys2Proof/Laws/Window.lean ====
section
/-! SUPPORT. The register map said once: which offsets hold a register, and which of them are read-only or locked while BUSY = 1
(10_state.md R36, R38; 20_memory.md R104). -/

namespace Sys2Proof.Machine

/-- A key that is no key of a list is not found in it. -/
theorem lookup_eq_none_of_forall_ne {α : Type} (k : BitVec 12) (l : List (BitVec 12 × α)) (h : ∀ p ∈ l, k ≠ p.1) :
    l.lookup k = none := by
  induction l with
  | nil => rfl
  | cons p ps ih =>
    have hp : (k == p.1) = false := beq_false_of_ne (h p (by simp))
    rw [List.lookup_cons, hp]
    exact ih fun q hq => h q (by simp [hq])

/-- No register lies at offset 0x080 or above. -/
theorem regAt_of_le {off : BitVec 12} (h : 0x080 ≤ off.toNat) : regAt off = none := by
  refine lookup_eq_none_of_forall_ne off _ fun p hp e => ?_
  have hk : ∀ q ∈ operandMap ++ resultMap, q.1.toNat < 0x080 := by decide
  have := hk p hp
  rw [← e] at this
  omega

theorem regAt_low : ∀ n, n < 0x080 → (regAt (BitVec.ofNat 12 n)).isNone = offsetReserved n := by decide +kernel

theorem regAt_low_kind : ∀ n, n < 0x080 → ∀ r ∈ regAt (BitVec.ofNat 12 n),
    r.readOnly = offsetReadOnly n ∧ r.busyLocked = offsetBusyLocked n := by decide +kernel

/-- The offsets without a register are the reserved ones (R38). -/
theorem regAt_isNone (off : BitVec 12) : (regAt off).isNone = offsetReserved off.toNat := by
  by_cases h : off.toNat < 0x080
  · simpa using regAt_low off.toNat h
  · rw [regAt_of_le (by omega)]
    have : 0x080 ≤ off.toNat := by omega
    simp [offsetReserved, this]

/-- The kind of the register at an offset (R104 items 3 and 5). -/
theorem regAt_kind {off : BitVec 12} {r : Reg} (h : regAt off = some r) :
    r.readOnly = offsetReadOnly off.toNat ∧ r.busyLocked = offsetBusyLocked off.toNat := by
  by_cases hn : off.toNat < 0x080
  · exact regAt_low_kind off.toNat hn r (by simpa using h)
  · rw [regAt_of_le (by omega)] at h
    cases h

end Sys2Proof.Machine
end

