-- ==== Sys2Proof/Tests/Slice0.lean ====
section
/-! SUPPORT. Tests of one step each on expected values from spec/95_test_vectors.md and the rules' worked examples, the smoke tests
of well-formedness and decoding, and a witness for the hypotheses of each statement. -/

namespace Sys2Proof.Tests

open Sys2Proof.Machine

/-- What holds of the next state of an outcome. -/
def after (o : Host.Outcome State Fault Refusal) (P : State → Bool) : Bool :=
  match o with
  | .next t => P t
  | .fault _ => false
  | .refused _ => false

/-- The reset state with a command latched. -/
def latched (w : Word) : State := { State.reset with busy := true, lcmd := w }

/-- The §8 nonce (95 section 1). -/
def nonce8 : BitVec 88 := 0xffeeddccbbaa9988776655

/-- The BCE answers of 95 section 1 and of vectors T2 and X4, AES-128 under key 000102…0f. -/
def answers8 : List (Block × BceAnswer) :=
  [(0xC0000000000000000000000000000000, .ok 0xb4ae6a6fe9517894acccbb9ebae7208c),
   (0x80ffeeddccbbaa998877665500000001, .ok 0x88b9dd052cf857cb39ef645c07027900),
   (0x2b9eaebe673fae036b16ea31dca7ae6b, .ok 0xfcdc064ccdcafee3de7aa3cf5c5db97b),
   (0x80ffeeddccbbaa998877665500000000, .ok 0xab89dde9c455c1febe7ee75882d48ad2),
   (0x00000000000000000000000000000000, .ok 0xc6a13b37878f5b826f4f8162a1c8d879),
   (0x80ffeeddccbbaa9988776655ffffffff, .ok 0x2d11ee56814eb6dd80ec27672a43810b)]

/-- A BCE that answers `err` to the blocks of the commands from reset under the §8 nonce. -/
def errors8 : List (Block × BceAnswer) :=
  [(0xC0000000000000000000000000000000, .err), (0x80ffeeddccbbaa998877665500000001, .err), (0, .err),
   (0x80ffeeddccbbaa998877665500000000, .err)]

/-- Reset with the §8 nonce and BCE. -/
def start8 : State := { State.reset with nonce := nonce8, bceTable := answers8 }

/-- The state of vector T1: the §8 message hashed (95 section 2.5). -/
def hashed8 : State :=
  { start8 with
    acc := 0x2b9eaebe673fae036b16ea31dca7ae63, clen := 8, hkey := 0x34ae6a6fe9517894acccbb9ebae7208c,
    zvalid := true, ctphase := true, short := true, ctr := 2 }

/-- Reset with a key loaded. -/
def keyed (z : Block) : State := { State.reset with hkey := z, zvalid := true }

/-! ### Well-formedness and decoding -/

theorem test_wf_refuses_chunk_of_zero : (Instr.hashAad 0).wf = false ∧ (Instr.hashCt 0).wf = false := by decide
theorem test_wf_refuses_long_chunk : (Instr.hashAad 13).wf = false ∧ (Instr.hashCt 13).wf = false := by decide
theorem test_wf_refuses_bad_block : (Instr.ctrXor 0).wf = false ∧ (Instr.ctrXor 17).wf = false := by decide
theorem test_wf_accepts_ranges :
    (Instr.hashAad 1).wf = true ∧ (Instr.hashCt 12).wf = true ∧ (Instr.ctrXor 16).wf = true ∧ Instr.nop.wf = true := by
  decide

/-- Key derivation words, bit by bit: RSVD, NBYTES, OP (R130, R132). -/
theorem test_decode_key_words :
    decode 0b0000000000000000000_00000_00000001 = .cmd .deriveZ ∧
    decode 0b0000000000000000000_00000_00000010 = .cmd .loadZ := by decide
/-- Universal hash words, bit by bit. -/
theorem test_decode_hash_words :
    decode 0b0000000000000000000_00000_00000011 = .cmd .msgInit ∧
    decode 0b0000000000000000000_01100_00000100 = .cmd (.hashAad 12) ∧
    decode 0b0000000000000000000_01000_00000101 = .cmd (.hashCt 8) := by decide
/-- Counter mode words, bit by bit. -/
theorem test_decode_ctr_words :
    decode 0b0000000000000000000_10000_00000110 = .cmd (.ctrXor 16) ∧
    decode 0b0000000000000000000_00001_00000110 = .cmd (.ctrXor 1) := by decide
/-- Tag words, bit by bit. -/
theorem test_decode_tag_words :
    decode 0b0000000000000000000_00000_00000111 = .cmd .tagGen ∧
    decode 0b0000000000000000000_00000_00001000 = .cmd .tagCheck := by decide
/-- Control words, bit by bit. -/
theorem test_decode_control_words :
    decode 0b0000000000000000000_00000_00000000 = .cmd .nop ∧
    decode 0b0000000000000000000_00000_00001001 = .cmd .clear := by decide
/-- Vectors D2 to D7 and D9 (95 section 2.6). -/
theorem test_decode_errors :
    decode 0x00000100 = .bad .badLen ∧ decode 0x0000000A = .bad .illegalOp ∧ decode 0x000000FF = .bad .illegalOp ∧
    decode 0x0000200A = .bad .rsvdBits ∧ decode 0x00002006 = .bad .rsvdBits ∧ decode 0xFFFFFFFF = .bad .rsvdBits ∧
    decode 0x00000107 = .bad .badLen ∧ decode 0x00000209 = .bad .badLen := by decide
theorem test_table_word_decodes :
    decodeTableWord 32 0x00000004 = some (.hashAad 0) ∧ decodeTableWord 32 0x00000009 = some .clear ∧
    decodeTableWord 32 0x0000000A = none := by decide

/-! ### Arithmetic (95 section 2.1) and layouts -/

/-- M1 to M5, M8, M9. -/
theorem test_mulmod_corner_vectors :
    mulmod 0x7ffffffffffffffffffffffffffffffe 0x7ffffffffffffffffffffffffffffffe = 1 ∧
    mulmod 0x7ffffffffffffffffffffffffffffffe 1 = 0x7ffffffffffffffffffffffffffffffe ∧
    mulmod 0x40000000000000000000000000000000 4 = 2 ∧
    mulmod 0x7ffffffffffffffffffffffffffffffe 0x40000000000000000000000000000000 =
      0x3fffffffffffffffffffffffffffffff ∧
    mulmod 0x7ffffffffffffffffffffffffffffffe 0x7ffffffffffffffffffffffffffffffd = 2 ∧
    mulmod 1 0x40000000000000000000000000000000 = 0x40000000000000000000000000000000 ∧
    mulmod 2 0x40000000000000000000000000000000 = 1 := by decide
/-- M6 and M7. -/
theorem test_mulmod_general_vectors :
    mulmod 0x0123456789abcdef0123456789abcdef 0x7edcba9876543210fedcba9876543210 =
      0x46b059ba497ed1b76a092c4adc5835e9 ∧
    mulmod 0x0123456789abcdef0123456789abcdef 0x7fffffffffffffffffffffffffffffff = 0 := by decide
/-- F1 to F4. -/
theorem test_addfold_vectors :
    addfold 0x7ffffffffffffffffffffffffffffffe 0xffffffffffffffffffffffff = 0x00000000fffffffffffffffffffffffe ∧
    addfold 0x7ffffffffffffffffffffffffffffffe 1 = 0 ∧
    addfold 0x7ffffffffffffffffffffffffffffffd 1 = 0x7ffffffffffffffffffffffffffffffe ∧
    addfold 0x40000000000000000000000000000000 0x800000000000000000000000 = 0x40000000800000000000000000000000 := by
  decide
/-- W and CB(1) of 95 section 1. -/
theorem test_block_layouts :
    chunkWord 0x88b8df0628fd51ccffffffffffffffff 8 = 0x0000000088b8df0628fd51cc00000000 ∧
    counterBlock nonce8 1 = 0x80ffeeddccbbaa998877665500000001 ∧
    lengthField 0 8 = 8 := by decide
/-- T8 and T9. -/
theorem test_tag_sum_vectors :
    { State.reset with acc := 0x0000000000000000ffffffffffffffff, clen := 1 }.tagSum =
      0x00000000000000010000000000000000 ∧
    { State.reset with acc := 0x7ffffffffffffffffffffffffffffffe, alen := 0x8000000000000000, clen := 2 }.tagSum = 0 := by
  decide

/-! ### The commands -/

/-- D1 and the worked example of R270. -/
theorem test_nop_sets_done_only :
    after (exec .nop { latched 0 with zvalid := true, doneIe := true })
      (fun t => t.statusWord == 0x00000004 && t.intstatWord == 1 && t.irq) = true := by decide
/-- D2: the word 0x00000100 ends with BAD_LEN. -/
theorem test_nop_with_count_is_bad_len :
    after (step (latched 0x00000100)) (fun t => t.statusWord == 0x00000302 && t.intstatWord == 3) = true := by decide
/-- K1. -/
theorem test_derive_z_k1 :
    after (exec .deriveZ start8)
      (fun t => t.hkey == 0x34ae6a6fe9517894acccbb9ebae7208c && t.statusWord == 0x00000004) = true := by decide
/-- K3. -/
theorem test_derive_z_bce_error :
    after (exec .deriveZ { State.reset with bceTable := errors8 })
      (fun t => t.hkey == 0 && t.statusWord == 0x00000702 && t.intstatWord == 3) = true := by decide
/-- K4. -/
theorem test_load_z_k4 :
    after (exec .loadZ { State.reset with data := 0xff000000000000000000000000000002 })
      (fun t => t.hkey == 0x7f000000000000000000000000000002 && t.zvalid) = true := by decide
/-- K6. -/
theorem test_load_z_k6 :
    after (exec .loadZ { State.reset with data := 0xffffffffffffffffffffffffffffffff })
      (fun t => t.hkey == 0x7fffffffffffffffffffffffffffffff) = true := by decide
/-- The worked example of R190. -/
theorem test_msg_init_example :
    after (exec .msgInit { hashed8 with tagv := true })
      (fun t => t.acc == 0 && t.clen == 0 && t.ctr == 1 && t.statusWord == 0x00000004) = true := by decide
/-- H4. -/
theorem test_hash_aad_h4 :
    after (exec (.hashAad 5) { keyed 1 with data := 0x0102030405ffffffffffffffffffffff })
      (fun t => t.acc == 0x00000000010203040500000000000000 && t.alen == 5 && t.statusWord == 0x00000084) = true := by
  decide
/-- H2, second chunk: the sum is p. -/
theorem test_hash_aad_sum_is_p :
    after (exec (.hashAad 12)
        { keyed 0x7ffffffffffffffffffffffffffffffe with
          acc := 0x7ffffffffffffffffffffffffffffffe, alen := 12, data := 0x00000000000000000000000100000000 })
      (fun t => t.acc == 0 && t.alen == 24 && t.statusWord == 0x00000004) = true := by decide
/-- H15. -/
theorem test_hash_ct_h15 :
    after (exec (.hashCt 8) { keyed 0x34ae6a6fe9517894acccbb9ebae7208c with data := 0x88b8df0628fd51cc0000000000000000 })
      (fun t => t.acc == 0x2b9eaebe673fae036b16ea31dca7ae63 && t.clen == 8 && t.statusWord == 0x000000C4) = true := by
  decide
/-- H14: NO_KEY before ORDER. -/
theorem test_hash_ct_no_key_before_order :
    after (exec (.hashCt 8) { State.reset with ctphase := true, short := true }) (fun t => t.errcode == 4) = true := by
  decide
/-- X1. -/
theorem test_ctr_xor_x1 :
    after (exec (.ctrXor 8) { start8 with data := 0x00010203040506070000000000000000 })
      (fun t => t.data == 0x88b8df0628fd51cc0000000000000000 && t.ctr == 2 && !t.err) = true := by decide
/-- X4: the counter wraps. -/
theorem test_ctr_xor_x4 :
    after (exec (.ctrXor 16) { start8 with ctr := 0xffffffff })
      (fun t => t.data == 0x2d11ee56814eb6dd80ec27672a43810b && t.ctr == 0 && !t.err) = true := by decide
/-- T1, the source's tag. -/
theorem test_tag_gen_t1 :
    after (exec .tagGen hashed8)
      (fun t => t.tag == 0x5755dba5099f3f1d60044497de8933a9 && t.statusWord == 0x000000CC) = true := by decide
/-- T2. -/
theorem test_tag_gen_t2 :
    after (exec .tagGen start8)
      (fun t => t.tag == 0x6d28e6de43da9a7cd131663a231c52ab && t.statusWord == 0x00000008) = true := by decide
/-- T5. -/
theorem test_tag_check_t5 :
    after (exec .tagCheck { hashed8 with tagin := 0x5755dba5099f3f1d60044497de8933a9, data := 7 })
      (fun t => t.data == 7 && t.statusWord == 0x000000DC) = true := by decide
/-- T6. -/
theorem test_tag_check_t6 :
    after (exec .tagCheck { hashed8 with tagin := 0x5755dba5099f3f1d60044497de8933a8, data := 7 })
      (fun t => t.data == 0 && t.statusWord == 0x000000EC) = true := by decide
/-- D10. -/
theorem test_clear_d10 :
    after (exec .clear { hashed8 with tagv := true, doneIe := true, erri := true })
      (fun t => t.statusWord == 0 && t.acc == 0 && t.ctr == 1 && t.nonce == 0 && t.hkey == 0 && t.doneIe && t.erri) =
      true := by decide

/-! ### The register window (95 section 2.7) and the step -/

/-- B1 to B5. -/
theorem test_bus_reads :
    start8.regRead 0x000 = .value 0x43574331 ∧ start8.regRead 0x004 = .value 0x0C100B10 ∧
    start8.regRead 0x002 = .error ∧ start8.regRead 0x018 = .error ∧ start8.regRead 0x080 = .error ∧
    start8.regRead 0x008 = .value 0 := by decide
/-- B6 to B8. -/
theorem test_bus_refused_writes :
    State.reset.regWrite 0x000 5 0b1111 = (State.reset, .error) ∧
    State.reset.regWrite 0x030 5 0b0001 = (State.reset, .error) ∧
    State.reset.regWrite 0x031 5 0b1111 = (State.reset, .error) := by decide
/-- B9. -/
theorem test_bus_nonce2 :
    (State.reset.regWrite 0x028 0xAABBCCDD 0b1111).1.regRead 0x028 = .value 0xAABBCC00 ∧
    (State.reset.regWrite 0x028 0xAABBCCDD 0b1111).1.nonce = 0xAABBCC := by decide
/-- B10 to B12. -/
theorem test_bus_while_busy :
    (latched 3).regRead 0x00C = .value 1 ∧ (latched 3).regWrite 0x030 7 0b1111 = (latched 3, .error) ∧
    (latched 3).regWrite 0x008 0 0b1111 = (latched 3, .error) ∧
    ((latched 3).regWrite 0x010 3 0b1111).1.regRead 0x010 = .value 3 := by decide
/-- B13 and B14. -/
theorem test_irq_and_intstat :
    after (step { latched 3 with doneIe := true }) (fun t =>
      t.regRead 0x00C == .value 0 && t.regRead 0x014 == .value 1 && t.irq &&
      !(t.regWrite 0x014 1 0b1111).1.irq) = true := by decide
theorem test_step_runs_placed_word :
    after (step (State.reset.withFetchWord 32 0x00000004)) (fun t => t.errcode == 3 && t.inputs == []) = true := by decide
theorem test_step_waits_for_bce :
    after (step { latched 1 with bceAnswers := false }) (fun t => t.busy) = true := by decide
theorem test_host_writes_reach_registers :
    after (step { State.reset with inputs := [.write 0x02C 9 0b1111] }) (fun t => t.ctr == 9 && t.resp == .written) =
      true := by decide

/-! ### Witnesses for the hypotheses of the statements -/

theorem witness_reservedWordsDoNothing :
    ([0x0000000A#32, 0x000000FF#32].all fun w =>
      (latched w).rstn && (latched w).busy && rsvdNat (latched w).lcmd == 0 && decide (10 ≤ opNat (latched w).lcmd)) = true ∧
    ([0x00002006#32, 0x80000000#32].all fun w => rsvdNat (latched w).lcmd != 0) = true := by decide
theorem witness_byteCountRange :
    ([0x00000004#32, 0x00000D05#32, 0x00000006#32, 0x00001106#32, 0x00000100#32].all fun w =>
      rsvdNat w == 0 && decide (opNat w < 10) && !lengthInRange (opNat w) (nbytesNat w)) = true ∧
    ([0x00000104#32, 0x00000C05#32, 0x00001006#32, 0x00000009#32].all fun w =>
      rsvdNat w == 0 && decide (opNat w < 10) && lengthInRange (opNat w) (nbytesNat w)) = true ∧
    (latched 0x00000104).bceAnswers = true := by decide
/-- A word and state for each branch of R302 (its own examples where it gives one). -/
theorem witness_errorCheckOrder :
    rsvdNat 0x0000200A ≠ 0 ∧ 10 ≤ opNat 0x0000000A ∧ lengthInRange (opNat 0x00000D04) (nbytesNat 0x00000D04) = false ∧
    (opNat 0x00000805 = 5 ∧ (latched 0x00000805).zvalid = false) ∧
    (opNat 0x00000C04 = 4 ∧ { keyed 1 with short := true }.short = true) ∧
    (opNat 0x00001006 = 6 ∧ { State.reset with ctr := 0 }.ctr = 0) ∧
    (decode 0x00000001 = .cmd .deriveZ ∧ { State.reset with bceTable := errors8 }.bce keyBlock = .err) ∧
    (latched 0).rstn = true ∧ (latched 0).busy = true := by decide
theorem witness_deriveZWritesKey :
    start8.bceAnswers = true ∧
    start8.bce 0xC0000000000000000000000000000000#128 = .ok 0xb4ae6a6fe9517894acccbb9ebae7208c ∧
    { start8 with bceTable := errors8 }.bce 0xC0000000000000000000000000000000#128 = .err := by decide
theorem witness_msgInitStartsMessage : ∃ t, exec .msgInit hashed8 = .next t := ⟨_, rfl⟩
theorem witness_hashAadAbsorbsChunk :
    ((0 : BitVec 5).toNat < 1 ∧ 12 < (13 : BitVec 5).toNat) ∧
    (1 ≤ (1 : BitVec 5).toNat ∧ (12 : BitVec 5).toNat ≤ 12 ∧ State.reset.zvalid = false) ∧
    ((keyed 1).zvalid = true ∧ { keyed 1 with ctphase := true }.ctphase = true ∧ { keyed 1 with short := true }.short = true) ∧
    ((keyed pBlock).ctphase = false ∧ (keyed pBlock).short = false ∧
      { keyed pBlock with acc := 0x7ffffffffffffffffffffffffffffffe }.acc.toNat ≤ modulusP - 1 ∧
      (keyed pBlock).hkey.toNat < 2 ^ 127) := by decide
theorem witness_hashCtAbsorbsChunk :
    ({ keyed 1 with ctphase := true, short := true }.zvalid = true ∧
      { keyed 1 with ctphase := true, short := true }.ctphase = true ∧
      { keyed 1 with ctphase := true, short := true }.short = true) ∧
    ({ keyed 1 with short := true }.ctphase = false ∧ { keyed 1 with ctphase := true }.short = false) ∧
    ((keyed 1).zvalid = true ∧ (keyed 1).acc.toNat ≤ modulusP - 1 ∧ (keyed 1).hkey.toNat < 2 ^ 127) := by decide
/-- The clauses of CtrXorAppliesKeystream; its last one is the hypothesis of CtrXorTwiceRestoresData too. -/
theorem witness_ctrXorAppliesKeystream :
    ((0 : BitVec 5).toNat < 1 ∧ 16 < (17 : BitVec 5).toNat ∧ 1 ≤ (1 : BitVec 5).toNat ∧ (16 : BitVec 5).toNat ≤ 16) ∧
    { start8 with ctr := 0 }.ctr = 0 ∧
    (start8.ctr ≠ 0 ∧ start8.bceAnswers = true ∧ { start8 with bceTable := errors8 }.bce
      (counterBlock start8.nonce start8.ctr) = .err) ∧
    start8.bce (counterBlock start8.nonce start8.ctr) = .ok 0x88b9dd052cf857cb39ef645c07027900 := by decide
theorem witness_tagGenComputesTag :
    start8.bceAnswers = true ∧ { start8 with bceTable := errors8 }.bce
      (BitVec.ofNat 128 (start8.acc.toNat + start8.alen.toNat * 2 ^ 64 + start8.clen.toNat)) = .err ∧
    start8.bce (BitVec.ofNat 128 (start8.acc.toNat + start8.alen.toNat * 2 ^ 64 + start8.clen.toNat)) =
      .ok 0xc6a13b37878f5b826f4f8162a1c8d879 ∧
    start8.bce (counterBlock start8.nonce 0) = .ok 0xab89dde9c455c1febe7ee75882d48ad2 ∧
    ({ start8 with bceTable := (0, .ok 1) :: errors8 }.bce 0 = .ok 1 ∧
      { start8 with bceTable := (0, .ok 1) :: errors8 }.bce (counterBlock start8.nonce 0) = .err) := by decide
theorem witness_tagCheckJudgesTag :
    (0xc6a13b37878f5b826f4f8162a1c8d879#128 ^^^ 0xab89dde9c455c1febe7ee75882d48ad2#128 =
      { start8 with tagin := 0x6d28e6de43da9a7cd131663a231c52ab }.tagin) ∧
    (0xc6a13b37878f5b826f4f8162a1c8d879#128 ^^^ 0xab89dde9c455c1febe7ee75882d48ad2#128 ≠ start8.tagin) := by decide
theorem witness_clearErases :
    (∃ t, exec .clear hashed8 = .next t) ∧ 1 ≤ (1 : BitVec 5).toNat ∧ (12 : BitVec 5).toNat ≤ 12 :=
  ⟨⟨_, rfl⟩, by decide⟩
theorem witness_commandsWriteOnlyTheirRow :
    ∃ t, exec .loadZ hashed8 = .next t ∧ opcodeOf .loadZ ∉ [3#8, 4#8, 5#8, 9#8] ∧
      opcodeOf .nop ∉ [1#8, 2#8, 9#8] ∧ opcodeOf .loadZ ∉ [6#8, 8#8, 9#8] ∧ opcodeOf .loadZ ∉ [3#8, 7#8, 8#8, 9#8] :=
  ⟨_, rfl, by decide⟩
/-- The bounds of ChunkWordLayout, CounterBlockLayout and BlockWordMapping. -/
theorem witness_layoutBounds : (0 : Nat) ≤ 12 ∧ (12 : Nat) ≤ 12 ∧ (0 : Nat) < 4 ∧ (3 : Nat) < 4 ∧ (10 : Nat) < 11 := by decide
theorem witness_tagSumWraps :
    (hashed8.acc.toNat ≤ modulusP - 1 ∧ hashed8.alen.toNat < 2 ^ 63) ∧
    ({ start8 with acc := 0x0000000000000000FFFFFFFFFFFFFFFF#128, clen := 1 }.acc = 0x0000000000000000FFFFFFFFFFFFFFFF#128 ∧
      start8.alen = 0 ∧ { start8 with acc := 0x0000000000000000FFFFFFFFFFFFFFFF#128, clen := 1 }.clen = 1) := by decide
/-- The bounds of AddfoldIsResidue, MulmodIsResidue and MulmodCorners. -/
theorem witness_arithmeticBounds :
    (0x7ffffffffffffffffffffffffffffffe#128).toNat ≤ modulusP - 1 ∧ (0xffffffffffffffffffffffff#128).toNat < 2 ^ 96 ∧
    pBlock.toNat < 2 ^ 127 := by decide
theorem witness_messageHashIsPolynomial : hashed8.zvalid = true ∧ hashed8.hkey.toNat < 2 ^ 127 := by decide
/-- The §8 message (95 section 1) meets the hypotheses of the tag statement. -/
theorem witness_messageTagIsSourceTag :
    start8.bceAnswers = true ∧ start8.bce keyBlock = .ok 0xb4ae6a6fe9517894acccbb9ebae7208c ∧
    start8.bce (BitVec.ofNat 128 (messageHash ((0xb4ae6a6fe9517894acccbb9ebae7208c#128).toNat % 2 ^ 127) []
      [0x88, 0xb8, 0xdf, 0x06, 0x28, 0xfd, 0x51, 0xcc] + (0 * 2 ^ 64 + 8))) =
      .ok 0xfcdc064ccdcafee3de7aa3cf5c5db97b ∧
    start8.bce (counterBlock start8.nonce 0) = .ok 0xab89dde9c455c1febe7ee75882d48ad2 := by decide
theorem witness_counterZeroNeverKeystream :
    start8.bceAnswers = true ∧ ∃ t, exec (.ctrXor 8) start8 = .next t := ⟨rfl, _, rfl⟩
theorem witness_counterWrapsThenRefuses :
    { start8 with ctr := 0xFFFFFFFF }.bce (counterBlock start8.nonce 0xFFFFFFFF) =
      .ok 0x2d11ee56814eb6dd80ec27672a43810b ∧
    (0x028 : BitVec 12) ≠ 0x02C ∧ opcodeOf .msgInit ≠ 6#8 ∧ opcodeOf .tagGen ≠ 6#8 := by decide
/-- Commands whose next state the CTR clause of CounterWrapsThenRefuses speaks of, one that writes CTR and one that does not. -/
theorem witness_counterWrapsOtherCommands :
    (∃ t, exec .msgInit start8 = .next t) ∧ ∃ t, exec .tagGen start8 = .next t := ⟨⟨_, rfl⟩, _, rfl⟩
theorem witness_deriveZDependsOnBceOnly :
    (∀ x, start8.bce x = hashed8.bce x) ∧ start8.bceAnswers = true ∧ hashed8.bceAnswers = true ∧
    ∃ t v, exec .deriveZ start8 = .next t ∧ exec .deriveZ hashed8 = .next v ∧ t.err = false :=
  ⟨fun _ => rfl, rfl, rfl, _, _, rfl, rfl, by decide⟩
theorem witness_onlyHashingReadsKey :
    (opcodeOf .tagGen ∉ [4#8, 5#8] ∧ ∃ t, exec .tagGen hashed8 = .next t) ∧
    (opcodeOf .deriveZ ∉ [4#8, 5#8] ∧ ∃ t, exec .deriveZ hashed8 = .next t ∧ hashed8.bceAnswers = true ∧ t.err = false) :=
  ⟨⟨by decide, _, rfl⟩, by decide, _, rfl, rfl, by decide⟩
theorem witness_tagCheckOutcomeIsFinal :
    (∀ x, { start8 with data := 7 }.bce x = start8.bce x) ∧
    ∃ t, exec .tagCheck start8 = .next t ∧ t.err = false := ⟨fun _ => rfl, _, rfl, by decide⟩
theorem witness_errorsArePrecise :
    (latched 0x0000000A).rstn = true ∧ (latched 0x0000000A).busy = true ∧ (latched 0x0000000A).bceAnswers = true ∧
    ∃ t, coreTurn (latched 0x0000000A) = .next t ∧ t.err = true := ⟨rfl, rfl, rfl, _, rfl, by decide⟩
/-- CommitEndsBusy and IssueLatchesCommand, with BUSY = 1 and BUSY = 0; ReadsHaveNoSideEffect, rst_n released. -/
theorem witness_busyAndIdle : (latched 0).busy = true ∧ (latched 0).rstn = true ∧ (latched 0).bceAnswers = true ∧ State.reset.busy = false := by
  decide
theorem witness_bceCallsInOrder :
    (∃ t, exec .tagGen start8 = .next t ∧ t.err = false) ∧
    ∃ t, exec .tagGen { start8 with bceTable := errors8 } = .next t ∧ t.errcode = 7 :=
  ⟨⟨_, rfl, by decide⟩, _, rfl, by decide⟩
theorem witness_accessRefusedExactly :
    (∀ o ∈ [0x018, 0x01C, 0x07E, 0x080, 0xFFF], offsetReserved o = true) ∧
    (∀ o ∈ [0x000, 0x00C, 0x050, 0x07C], offsetReadOnly o = true ∧ offsetReserved o = false) ∧
    (∀ o ∈ [0x008, 0x020, 0x04C], offsetBusyLocked o = true ∧ offsetReserved o = false ∧ offsetReadOnly o = false) ∧
    (∀ o ∈ [0x010, 0x014], offsetBusyLocked o = false ∧ offsetReserved o = false ∧ offsetReadOnly o = false) := by decide
theorem witness_writeReadsBack :
    State.reset.busy = false ∧ (latched 3).busy = true ∧ (0x020 ≤ (0x020 : BitVec 12).toNat ∧ (0x04C : BitVec 12).toNat < 0x050) ∧
    (0x010 : BitVec 12) ≠ 0x008 ∧ (0x00C : BitVec 12) ≠ 0x010 := by decide
/-- A step between issue and commit, with the core waiting for the BCE and with a host access (IssueHidesResults). -/
theorem witness_issueHidesResults :
    (∃ t, step { latched 1 with bceAnswers := false } = .next t ∧ t.busy = true) ∧
    (∃ t, step { latched 3 with inputs := [.write 0x030 7 0b1111] } = .next t ∧ t.busy = true) ∧
    (0x00C : BitVec 12) ≠ 0x010 ∧ (0x00C : BitVec 12) ≠ 0x014 :=
  ⟨⟨_, rfl, by decide⟩, ⟨_, rfl, by decide⟩, by decide⟩
/-- OperandsHeldWhileBusy, HostCannotWriteResults, IssueHidesResults' issue, and ProgressOrAwaitBce's events. -/
theorem witness_events :
    (∃ t, takeInput (.write 0x010 3 0b1111) (latched 3) = .next t) ∧
    (Input.write 0x010 3 0b1111 ≠ .core) ∧ (Input.write 0x010 3 0b1111 ≠ .rst false) ∧
    (∀ b, Input.write 0x010 3 0b1111 ≠ .bce b) ∧ (0x010 : BitVec 12) ≠ 0x00C :=
  ⟨⟨_, rfl⟩, by decide⟩
theorem witness_resetAbandonsCommand : { latched 3 with rstn := false }.rstn = false := by decide
theorem witness_stepRunsDecodedCommand :
    decode (latched 3).lcmd = .cmd .msgInit ∧ (latched 3).inputs = [] ∧
    { latched 3 with inputs := [.core] }.inputs = .core :: [] ∧ decode (latched 0x0000000A).lcmd = .bad .illegalOp ∧
    decodeTableWord 32 3 = some .msgInit := by decide
/-- KeyStaysBelowBound, AccStaysCanonical, StepKeepsInv and StepKeepsBceFunction, each in a state with a key and a hash. -/
theorem witness_invariants :
    State.reset.Inv ∧ hashed8.Inv ∧ hashed8.hkey.toNat < 2 ^ 127 ∧ ∃ t, step hashed8 = .next t :=
  ⟨by decide, by decide, by decide, _, rfl⟩
theorem witness_progressOrAwaitBce :
    ((latched 1).rstn = true ∧ (latched 1).busy = true ∧ (latched 1).bceAnswers = true ∧ (latched 1).inputs = []) ∧
    { latched 1 with bceAnswers := false }.AwaitsBce :=
  ⟨by decide, rfl, rfl, rfl, .deriveZ, by decide, rfl, by decide⟩

end Sys2Proof.Tests
end

/-! ## SUPPORT for the statements about the state: what a command assigns, what a step can do -/

section

namespace Sys2Proof.Machine

/-! ### The assignments of a command that completes -/

/-- `Assigns i s u`: command `i`, run in `s` and passed by its checks, commits the assignments that make `s` into `u`. Each
constructor carries the checks it has passed (R302) and the BCE answers it has used (R120). -/
inductive Assigns : Instr → State → State → Prop where
  | nop (s : State) : Assigns .nop s s
  | deriveZ {s : State} {y : Block} (hy : s.bce keyBlock = .ok y) : Assigns .deriveZ s (s.loadKey y)
  | loadZ (s : State) : Assigns .loadZ s (s.loadKey s.data)
  | msgInit (s : State) : Assigns .msgInit s s.startMessage
  | hashAad {n : BitVec 5} {s : State} (hn : chunkLenOk n = true) (hz : s.zvalid = true)
      (ho : (s.ctphase || s.short) = false) :
      Assigns (.hashAad n) s { s.absorb n with alen := s.alen + n.setWidth 64 }
  | hashCt {n : BitVec 5} {s : State} (hn : chunkLenOk n = true) (hz : s.zvalid = true)
      (ho : (s.ctphase && s.short) = false) :
      Assigns (.hashCt n) s { s.absorb n with clen := s.clen + n.setWidth 64, ctphase := true }
  | ctrXor {n : BitVec 5} {s : State} {k : Block} (hn : blockLenOk n = true) (hc : s.ctr ≠ 0)
      (hk : s.bce (counterBlock s.nonce s.ctr) = .ok k) : Assigns (.ctrXor n) s (s.xorKeystream n k)
  | tagGen {s : State} {r1 r2 : Block} (h1 : s.bce s.tagSum = .ok r1) (h2 : s.bce s.maskBlock = .ok r2) :
      Assigns .tagGen s (s.putTag r1 r2)
  | tagMatches {s : State} {r1 r2 : Block} (h1 : s.bce s.tagSum = .ok r1) (h2 : s.bce s.maskBlock = .ok r2)
      (ht : r1 ^^^ r2 = s.tagin) : Assigns .tagCheck s { s.putTag r1 r2 with authOk := true }
  | tagDiffers {s : State} {r1 r2 : Block} (h1 : s.bce s.tagSum = .ok r1) (h2 : s.bce s.maskBlock = .ok r2)
      (ht : r1 ^^^ r2 ≠ s.tagin) : Assigns .tagCheck s { s.putTag r1 r2 with authFail := true, data := 0 }
  | clear (s : State) : Assigns .clear s s.erase

/-- TAG_CHECK's assignments are those of a match or those of a mismatch (R250, R252). -/
theorem Assigns.judgeTag {s : State} {r1 r2 : Block} (h1 : s.bce s.tagSum = .ok r1) (h2 : s.bce s.maskBlock = .ok r2) :
    Assigns .tagCheck s (s.judgeTag r1 r2) := by
  by_cases ht : r1 ^^^ r2 = s.tagin
  · have e : s.judgeTag r1 r2 = { s.putTag r1 r2 with authOk := true } :=
      if_pos ((tagDiff_eq_zero _ _).mpr ht)
    exact e ▸ .tagMatches h1 h2 ht
  · have e : s.judgeTag r1 r2 = { s.putTag r1 r2 with authFail := true, data := 0 } :=
      if_neg (mt (tagDiff_eq_zero _ _).mp ht)
    exact e ▸ .tagDiffers h1 h2 ht

/-- How command `i` run in `s` ends: it waits for a silent BCE (R366), or commits an error (R303), or commits its
assignments after all its BCE calls (R306, R120). -/
inductive CommandEnds (i : Instr) (s : State) : State → Prop where
  | waits (h : s.bceAnswers = false) : CommandEnds i s s
  | fails (e : CmdError) (reqs : List Block) : CommandEnds i s (s.failedWith e.code reqs)
  | commits {u : State} (h : Assigns i s u) : CommandEnds i s (u.committed (bceCalls i s))

theorem commandEnds_finish {i : Instr} {s u : State} (hc : bceCalls i s = []) (h : Assigns i s u) :
    CommandEnds i s u.finish := by
  rw [State.finish_eq_committed, ← hc]
  exact .commits h

theorem commandEnds_viaBce {i : Instr} {s : State} {x : Block} {k : Block → State} (hc : bceCalls i s = [x])
    (hk : ∀ y, s.bce x = .ok y → Assigns i s (k y)) : CommandEnds i s (s.viaBce x k) := by
  obtain ⟨hb, e⟩ | ⟨-, -, e⟩ | ⟨-, y, hy, e⟩ := s.viaBce_cases x k <;> rw [e]
  · exact .waits hb
  · exact .fails .bceFail [x]
  · exact hc ▸ .commits (hk y hy)

theorem commandEnds_viaBce2 {i : Instr} {s : State} {x1 x2 : Block} {k : Block → Block → State}
    (hc : bceCalls i s = [x1, x2]) (hk : ∀ y1 y2, s.bce x1 = .ok y1 → s.bce x2 = .ok y2 → Assigns i s (k y1 y2)) :
    CommandEnds i s (s.viaBce2 x1 x2 k) := by
  obtain ⟨hb, e⟩ | ⟨-, -, e⟩ | ⟨-, -, -, e⟩ | ⟨-, y1, y2, h1, h2, e⟩ := s.viaBce2_cases x1 x2 k <;> rw [e]
  · exact .waits hb
  · exact .fails .bceFail [x1]
  · exact .fails .bceFail [x1, x2]
  · exact hc ▸ .commits (hk y1 y2 h1 h2)

/-- What a command can do, its assignments included. -/
theorem commandEnds_of_exec {i : Instr} {s t : State} (h : exec i s = .next t) : CommandEnds i s t := by
  cases i with
  | nop => cases h; exact commandEnds_finish rfl (.nop s)
  | loadZ => cases h; exact commandEnds_finish rfl (.loadZ s)
  | msgInit => cases h; exact commandEnds_finish rfl (.msgInit s)
  | clear => cases h; exact commandEnds_finish rfl (.clear s)
  | deriveZ => cases h; exact commandEnds_viaBce rfl fun _ => .deriveZ
  | tagGen => cases h; exact commandEnds_viaBce2 rfl fun _ _ => .tagGen
  | tagCheck => cases h; exact commandEnds_viaBce2 rfl fun _ _ => .judgeTag
  | hashAad n =>
    cases h
    split_ifs with hn hz ho
    · exact .fails .badLen []
    · exact .fails .noKey []
    · exact .fails .order []
    · exact commandEnds_finish rfl (.hashAad (by simpa using hn) (by simpa using hz) (by simpa using ho))
  | hashCt n =>
    cases h
    split_ifs with hn hz ho
    · exact .fails .badLen []
    · exact .fails .noKey []
    · exact .fails .order []
    · exact commandEnds_finish rfl (.hashCt (by simpa using hn) (by simpa using hz) (by simpa using ho))
  | ctrXor n =>
    cases h
    split_ifs with hn hc
    · exact .fails .badLen []
    · exact .fails .ctrZero []
    · exact commandEnds_viaBce rfl fun _ => .ctrXor (by simpa using hn) hc

/-! ### What a step can do -/

/-- `t` has the registers of `s`: it differs at most in the pins, the port's response and the surroundings. -/
def State.SameRegs (s t : State) : Prop :=
  ∃ rstn resp answers table inputs,
    t = { s with rstn := rstn, resp := resp, bceAnswers := answers, bceTable := table, inputs := inputs }

theorem State.SameRegs.refl (s : State) : s.SameRegs s := ⟨_, _, _, _, _, rfl⟩

/-- How an event taken in `s` ends: the registers stay, or the host stores into one (R102), or the block is reset (R350), or
the core commits the latched command with an error (R303) or with its assignments (R306). -/
inductive EventEnds (e : Input) (s t : State) : Prop where
  | keeps (h : s.SameRegs t)
  | stores {off : BitVec 12} {v : Word} {strb : BitVec 4} {r : Reg} (he : e = .write off v strb)
      (hr : regAt off = some r) (hw : s.writeRefused r strb = false) (h : (s.store r v).SameRegs t)
  | resets (he : e = .rst false) (h : State.reset.SameRegs t)
  | fails {err : CmdError} {reqs : List Block} (he : e = .core) (h : t = s.failedWith err.code reqs)
  | commits {i : Instr} {u : State} (he : e = .core) (ha : Assigns i s u) (h : t = u.committed (bceCalls i s))

theorem eventEnds_of_coreTurn {s t : State} (h : coreTurn s = .next t) : EventEnds .core s t := by
  obtain ⟨-, hc⟩ | ⟨-, -, i, -, hc⟩ | ⟨-, -, err, -, hc⟩ := coreTurn_cases s <;> rw [hc] at h
  · cases h; exact .keeps (.refl s)
  · cases commandEnds_of_exec h with
    | waits => exact .keeps (.refl s)
    | fails err reqs => exact .fails rfl rfl
    | commits ha => exact .commits rfl ha rfl
  · cases h; exact .fails rfl rfl

theorem eventEnds_of_hostWrite (s : State) (off : BitVec 12) (v : Word) (strb : BitVec 4) :
    EventEnds (.write off v strb) s (s.hostWrite off v strb) := by
  unfold State.hostWrite
  split
  · obtain hw | ⟨r, hr, hw, hs⟩ := s.regWrite_cases off v strb
    · rw [hw]; exact .keeps ⟨_, _, _, _, _, rfl⟩
    · rw [hs]; exact .stores rfl hr hw ⟨_, _, _, _, _, rfl⟩
  · exact .keeps ⟨_, _, _, _, _, rfl⟩

theorem sameRegs_hostRead (s : State) (off : BitVec 12) : s.SameRegs (s.hostRead off) := by
  unfold State.hostRead
  split <;> exact ⟨_, _, _, _, _, rfl⟩

/-- What an event can do. -/
theorem eventEnds_of_takeInput {e : Input} {s t : State} (h : takeInput e s = .next t) : EventEnds e s t := by
  cases e with
  | read off => cases h; exact .keeps (sameRegs_hostRead s off)
  | write off v strb => cases h; exact eventEnds_of_hostWrite s off v strb
  | core => exact eventEnds_of_coreTurn h
  | rst level =>
    cases h
    cases level
    · exact .resets rfl ⟨_, _, _, _, _, rfl⟩
    · exact .keeps ⟨_, _, _, _, _, rfl⟩
  | bce answers => cases h; exact .keeps ⟨_, _, _, _, _, rfl⟩

/-- A step takes the next event, or the core's turn when none waits, off the list (R112). -/
theorem step_eq_takeInput (s : State) :
    step s = takeInput (s.inputs.headD .core) { s with inputs := s.inputs.tail } := by
  cases h : s.inputs with
  | nil =>
    have hs : { s with inputs := [] } = s := by rw [← h]
    rw [step_of_no_input h, List.headD_nil, List.tail_nil, hs, takeInput]
  | cons e rest => rw [step_of_input h, List.headD_cons, List.tail_cons]

/-- The induction behind every invariant of the registers: it is enough that it reads nothing but registers, holds at reset,
and is kept by an accepted write and by the two forms of a commit. -/
theorem step_keeps {P : State → Prop}
    (hregs : ∀ (s : State) rstn resp answers table inputs, P s →
      P { s with rstn := rstn, resp := resp, bceAnswers := answers, bceTable := table, inputs := inputs })
    (hreset : P State.reset) (hstore : ∀ s r v, P s → P (s.store r v))
    (hfail : ∀ s (e : CmdError) reqs, P s → P (s.failedWith e.code reqs))
    (hcommit : ∀ i s u reqs, Assigns i s u → P s → P (u.committed reqs))
    {s t : State} (hs : P s) (h : step s = .next t) : P t := by
  have hsame : ∀ {s t : State}, s.SameRegs t → P s → P t := by
    rintro s _ ⟨_, _, _, _, _, rfl⟩
    exact hregs s _ _ _ _ _
  have hs' : P { s with inputs := s.inputs.tail } := hsame ⟨_, _, _, _, _, rfl⟩ hs
  cases eventEnds_of_takeInput ((step_eq_takeInput s).symm.trans h) with
  | keeps hk => exact hsame hk hs'
  | stores _ _ _ hk => exact hsame hk (hstore _ _ _ hs')
  | resets _ hk => exact hsame hk hreset
  | fails _ hk => exact hk ▸ hfail _ _ _ hs'
  | commits _ ha hk => exact hk ▸ hcommit _ _ _ _ ha hs'

end Sys2Proof.Machine

end

/-! ## The invariants of the block (O53, O54, O55, O56)

The invariant of the block is five invariants side by side, each kept by every step on its own: the bound on HKEY, the
canonical ACC, the status, the verdict on the tag, and what stands before a key or a ciphertext. -/

section

namespace Sys2Proof.Machine

/-! ### An accepted write leaves the results, the key and the flags -/

section
variable (s : State) (r : Reg) (v : Word)

@[simp] theorem State.store_tag : (s.store r v).tag = s.tag := by cases r <;> rfl
@[simp] theorem State.store_acc : (s.store r v).acc = s.acc := by cases r <;> rfl
@[simp] theorem State.store_alen : (s.store r v).alen = s.alen := by cases r <;> rfl
@[simp] theorem State.store_clen : (s.store r v).clen = s.clen := by cases r <;> rfl
@[simp] theorem State.store_hkey : (s.store r v).hkey = s.hkey := by cases r <;> rfl
@[simp] theorem State.store_zvalid : (s.store r v).zvalid = s.zvalid := by cases r <;> rfl
@[simp] theorem State.store_tagv : (s.store r v).tagv = s.tagv := by cases r <;> rfl
@[simp] theorem State.store_authOk : (s.store r v).authOk = s.authOk := by cases r <;> rfl
@[simp] theorem State.store_authFail : (s.store r v).authFail = s.authFail := by cases r <;> rfl
@[simp] theorem State.store_ctphase : (s.store r v).ctphase = s.ctphase := by cases r <;> rfl
@[simp] theorem State.store_short : (s.store r v).short = s.short := by cases r <;> rfl

end

/-! ### HKEY below 2^127 (R71) -/

theorem toNat_clr127_lt (b : Block) : (clr127 b).toNat < 2 ^ 127 :=
  toNat_clr127 b ▸ Nat.mod_lt _ (by decide)

theorem Assigns.hkey_lt {i : Instr} {s u : State} (ha : Assigns i s u) (h : s.hkey.toNat < 2 ^ 127) :
    u.hkey.toNat < 2 ^ 127 := by
  cases ha with
  | deriveZ | loadZ => exact toNat_clr127_lt _
  | clear => exact Nat.two_pow_pos 127
  | _ => exact h

theorem step_keeps_hkey_lt {s t : State} (h : s.hkey.toNat < 2 ^ 127) (hst : step s = .next t) :
    t.hkey.toNat < 2 ^ 127 := by
  refine step_keeps (P := fun s => s.hkey.toNat < 2 ^ 127) (fun _ _ _ _ _ _ h => h) (by decide) (fun s r v h => ?_)
    (fun _ _ _ h => h) (fun _ _ _ _ ha h => ha.hkey_lt h) h hst
  rwa [State.store_hkey]

/-- Settles O53: HKEY is only ever written with 0 or with a block whose bit 127 is cleared. -/
theorem keyStaysBelowBound : Obligations.KeyStaysBelowBound :=
  ⟨by decide, fun _ _ => step_keeps_hkey_lt⟩

/-! ### ACC a canonical residue (R72) -/

/-- The last fold of the datapath gives a canonical residue whatever it is given. -/
theorem toNat_condSubP_mersenneFold_le (b : Block) : (condSubP (mersenneFold b)).toNat ≤ modulusP - 1 := by
  have hfold : (mersenneFold b).toNat ≤ 2 ^ 127 := by
    rw [toNat_mersenneFold]
    omega
  rw [toNat_condSubP _ hfold]
  exact Nat.le_sub_one_of_lt (Nat.mod_lt _ (by decide))

theorem toNat_hstep_le (a w z : Block) : (hstep a w z).toNat ≤ modulusP - 1 :=
  toNat_condSubP_mersenneFold_le _

theorem Assigns.acc_le {i : Instr} {s u : State} (ha : Assigns i s u) (h : s.acc.toNat ≤ modulusP - 1) :
    u.acc.toNat ≤ modulusP - 1 := by
  cases ha with
  | msgInit | clear => exact Nat.zero_le _
  | hashAad | hashCt => exact toNat_hstep_le _ _ _
  | _ => exact h

theorem step_keeps_acc_le {s t : State} (h : s.acc.toNat ≤ modulusP - 1) (hst : step s = .next t) :
    t.acc.toNat ≤ modulusP - 1 := by
  refine step_keeps (P := fun s => s.acc.toNat ≤ modulusP - 1) (fun _ _ _ _ _ _ h => h) (Nat.zero_le _)
    (fun s r v h => ?_) (fun _ _ _ h => h) (fun _ _ _ _ ha h => ha.acc_le h) h hst
  rwa [State.store_acc]

/-- Settles O54: ACC is only ever written with 0 or with a hash step, whose last fold is canonical for every input. -/
theorem accStaysCanonical : Obligations.AccStaysCanonical :=
  ⟨Nat.zero_le _, fun _ _ => step_keeps_acc_le⟩

/-! ### The status: BUSY, ERR and ERRCODE (R52, R303, R305) -/

/-- ERRCODE is at most 7, ERR says it is not 0, and BUSY excludes ERR. -/
def State.StatusSound (s : State) : Prop :=
  s.errcode.toNat ≤ 7 ∧ (s.err = true ↔ s.errcode ≠ 0) ∧ (s.busy = true → s.err = false)

theorem code_le_and_ne_zero (e : CmdError) : e.code.toNat ≤ 7 ∧ e.code ≠ 0 := by
  cases e <;> decide

theorem State.StatusSound.store {s : State} (h : s.StatusSound) (r : Reg) (v : Word) : (s.store r v).StatusSound := by
  cases r with
  | cmd => simp [State.StatusSound, State.store]
  | _ => exact h

theorem State.statusSound_failedWith (s : State) (e : CmdError) (reqs : List Block) :
    (s.failedWith e.code reqs).StatusSound := by
  obtain ⟨hle, hne⟩ := code_le_and_ne_zero e
  exact ⟨hle, ⟨fun _ => hne, fun _ => rfl⟩, Bool.noConfusion⟩

theorem State.statusSound_committed (u : State) (reqs : List Block) : (u.committed reqs).StatusSound := by
  simp [State.StatusSound, State.committed]

theorem step_keeps_statusSound {s t : State} (h : s.StatusSound) (hst : step s = .next t) : t.StatusSound := by
  refine step_keeps (fun _ _ _ _ _ _ h => h) (by simp [State.StatusSound, State.reset]) (fun _ r v h => h.store r v)
    (fun s e reqs _ => s.statusSound_failedWith e reqs) (fun _ _ u reqs _ _ => u.statusSound_committed reqs) h hst

/-! ### The verdict on the tag (R49, R61, R250) -/

/-- AUTH_OK and AUTH_FAIL exclude each other and stand only beside TAGV, and without TAGV the tag is 0. -/
def State.VerdictSound (s : State) : Prop :=
  ¬(s.authOk = true ∧ s.authFail = true) ∧ (s.authOk = true ∨ s.authFail = true → s.tagv = true) ∧
  (s.tagv = false → s.tag = 0)

theorem Assigns.verdictSound {i : Instr} {s u : State} (ha : Assigns i s u) (h : s.VerdictSound) : u.VerdictSound := by
  cases ha with
  | msgInit | tagGen | tagMatches | tagDiffers | clear => simp [State.VerdictSound]
  | _ => exact h

theorem step_keeps_verdictSound {s t : State} (h : s.VerdictSound) (hst : step s = .next t) : t.VerdictSound := by
  refine step_keeps (fun _ _ _ _ _ _ h => h) (by simp [State.VerdictSound, State.reset]) (fun s r v h => ?_)
    (fun _ _ _ h => h) (fun _ _ _ _ ha h => ha.verdictSound h) h hst
  simpa [State.VerdictSound] using h

/-! ### The stream: what a key and a ciphertext come before (R46, R50, R64, R273) -/

/-- With no key nothing is hashed, and before the first HASH_CT no ciphertext is counted. -/
def State.StreamSound (s : State) : Prop :=
  (s.zvalid = false → s.hkey = 0 ∧ s.acc = 0 ∧ s.alen = 0 ∧ s.clen = 0 ∧ s.ctphase = false ∧ s.short = false) ∧
  (s.ctphase = false → s.clen = 0)

theorem Assigns.streamSound {i : Instr} {s u : State} (ha : Assigns i s u) (h : s.StreamSound) : u.StreamSound := by
  obtain ⟨hkey, hclen⟩ := h
  cases ha with
  | deriveZ | loadZ => exact ⟨by simp, hclen⟩
  | msgInit => exact ⟨fun hz => ⟨(hkey hz).1, by simp⟩, fun _ => rfl⟩
  | hashAad _ hz => exact ⟨by simp [hz], hclen⟩
  | hashCt _ hz => simp [State.StreamSound, hz]
  | clear => simp [State.StreamSound]
  | _ => exact ⟨hkey, hclen⟩

theorem step_keeps_streamSound {s t : State} (h : s.StreamSound) (hst : step s = .next t) : t.StreamSound := by
  refine step_keeps (fun _ _ _ _ _ _ h => h) (by simp [State.StreamSound, State.reset]) (fun s r v h => ?_)
    (fun _ _ _ h => h) (fun _ _ _ _ ha h => ha.streamSound h) h hst
  simpa [State.StreamSound] using h

/-! ### The invariant of the block -/

/-- The invariant of the block is its five parts. -/
theorem State.inv_iff (s : State) :
    s.Inv ↔ s.acc.toNat ≤ modulusP - 1 ∧ s.hkey.toNat < 2 ^ 127 ∧ s.StatusSound ∧ s.VerdictSound ∧ s.StreamSound := by
  unfold State.Inv State.StatusSound State.VerdictSound State.StreamSound
  tauto

/-- Settles O55: each of the invariant's five parts is kept by every step. -/
theorem stepKeepsInv : Obligations.StepKeepsInv := by
  intro s t hs hst
  obtain ⟨hacc, hkey, hstatus, hverdict, hstream⟩ := s.inv_iff.mp hs
  exact t.inv_iff.mpr ⟨step_keeps_acc_le hacc hst, step_keeps_hkey_lt hkey hst, step_keeps_statusSound hstatus hst,
    step_keeps_verdictSound hverdict hst, step_keeps_streamSound hstream hst⟩

/-- Settles O56. -/
theorem resetHasInv : Obligations.ResetHasInv := by
  unfold Obligations.ResetHasInv
  decide

end Sys2Proof.Machine

end

/-! ## The register window: offsets, the words of the registers, and what an accepted write leaves -/

section

namespace Sys2Proof.Machine

/-! ### The register map as a function of the register (R36) -/

/-- The byte offset of a register (R36, R37): word k of a multi-word register stands at base + 4k. -/
def Reg.offset : Reg → BitVec 12
  | .id => 0x000
  | .param => 0x004
  | .cmd => 0x008
  | .status => 0x00C
  | .inten => 0x010
  | .intstat => 0x014
  | .nonce k => BitVec.ofNat 12 (0x020 + 4 * k)
  | .ctr => 0x02C
  | .data k => BitVec.ofNat 12 (0x030 + 4 * k)
  | .tagin k => BitVec.ofNat 12 (0x040 + 4 * k)
  | .tag k => BitVec.ofNat 12 (0x050 + 4 * k)
  | .acc k => BitVec.ofNat 12 (0x060 + 4 * k)
  | .alenHi => 0x070
  | .alenLo => 0x074
  | .clenHi => 0x078
  | .clenLo => 0x07C

theorem regAt_nonce : ∀ k, regAt (Reg.nonce k).offset = some (.nonce k) := by decide
theorem regAt_data : ∀ k, regAt (Reg.data k).offset = some (.data k) := by decide
theorem regAt_tagin : ∀ k, regAt (Reg.tagin k).offset = some (.tagin k) := by decide
theorem regAt_tag : ∀ k, regAt (Reg.tag k).offset = some (.tag k) := by decide
theorem regAt_acc : ∀ k, regAt (Reg.acc k).offset = some (.acc k) := by decide

/-- The map has every register at its offset. -/
@[simp] theorem regAt_offset (r : Reg) : regAt r.offset = some r := by
  cases r with
  | nonce k => exact regAt_nonce k
  | data k => exact regAt_data k
  | tagin k => exact regAt_tagin k
  | tag k => exact regAt_tag k
  | acc k => exact regAt_acc k
  | _ => rfl

/-- A register stands at its own offset only. -/
theorem eq_offset_of_regAt {off : BitVec 12} {r : Reg} (h : regAt off = some r) : off = r.offset := by
  have hmap : ∀ p ∈ operandMap ++ resultMap, p.1 = p.2.offset := by decide
  obtain ⟨l, l', hl, -⟩ := List.lookup_eq_some_iff.mp h
  exact hmap (off, r) (by simp [hl])

theorem regAt_eq_some_iff {off : BitVec 12} {r : Reg} : regAt off = some r ↔ off = r.offset :=
  ⟨eq_offset_of_regAt, fun h => h ▸ regAt_offset r⟩

/-- A read of a register's offset shows the register (R101). -/
theorem State.regRead_of_regAt {s : State} {off : BitVec 12} {r : Reg} (h : regAt off = some r) :
    s.regRead off = .value (s.view r) := by
  simp only [State.regRead, h]

theorem State.regRead_offset (s : State) (r : Reg) : s.regRead r.offset = .value (s.view r) :=
  State.regRead_of_regAt (regAt_offset r)

/-- Two states that show the same in the register at an offset read the same there. -/
theorem State.regRead_congr {s t : State} {off : BitVec 12} (h : ∀ r, off = r.offset → t.view r = s.view r) :
    t.regRead off = s.regRead off := by
  unfold State.regRead
  cases hr : regAt off with
  | none => rfl
  | some r => simp only [h r (eq_offset_of_regAt hr)]

/-- An accepted write leaves the state the register's `store` gives (R102). -/
theorem State.regWrite_offset {s : State} {r : Reg} (v : Word) {strb : BitVec 4} (h : s.writeRefused r strb = false) :
    s.regWrite r.offset v strb = (s.store r v, .written) := by
  simp [State.regWrite, h]

/-! ### The words of a 128-bit register (R37, R102) -/

/-- Byte j of word k of a block is byte 4k + j of the block. -/
theorem extractLsb'_blockWord (b : Block) {k j : Nat} (hk : k < 4) (hj : j < 4) :
    (blockWord b k).extractLsb' (8 * (3 - j)) 8 = byte b (4 * k + j) := by
  ext i hi
  have hlow : 8 * (3 - j) + i < 32 := by omega
  have hsum : 32 * (3 - k) + (8 * (3 - j) + i) = 8 * (15 - (4 * k + j)) + i := by omega
  simp [blockWord, byte, hlow, hsum]

/-- A word is determined by its four bytes. -/
theorem word_ext_bytes {v w : Word}
    (h : ∀ j, j < 4 → v.extractLsb' (8 * (3 - j)) 8 = w.extractLsb' (8 * (3 - j)) 8) : v = w := by
  apply BitVec.eq_of_getLsbD_eq
  intro i hi
  have hbyte := congrArg (fun x => x.getLsbD (i % 8)) (h (3 - i / 8) (by omega))
  have hpos : 8 * (3 - (3 - i / 8)) + i % 8 = i := by omega
  have hmod : i % 8 < 8 := Nat.mod_lt _ (by decide)
  simpa [BitVec.getLsbD_extractLsb', hpos, hmod] using hbyte

theorem toNat_blockWord (b : Block) {k : Nat} (hk : k < 4) :
    (blockWord b k).toNat = b.toNat / 2 ^ (96 - 32 * k) % 2 ^ 32 := by
  have hpos : 32 * (3 - k) = 96 - 32 * k := by omega
  rw [blockWord, BitVec.extractLsb'_toNat, Nat.shiftRight_eq_div_pow, hpos]

/-- Writing word k of a block changes that word alone. -/
theorem blockWord_setBlockWord (b : Block) (v : Word) {k j : Nat} (hj : j < 4) :
    blockWord (setBlockWord b k v) j = if j = k then v else blockWord b j := by
  apply word_ext_bytes
  intro i hi
  have hword : (4 * j + i) / 4 = j := by omega
  have hlane : (4 * j + i) % 4 = i := by omega
  rw [extractLsb'_blockWord _ hj hi, setBlockWord, byte_ofBytes _ (by omega), hword, hlane]
  split
  · rfl
  · rw [extractLsb'_blockWord _ hj hi]

/-! ### The words of NONCE (R55–R57, R102) -/

theorem word_and_mask (v : Word) : v &&& 0xFFFFFF00 = v.extractLsb' 8 24 ++ 0#8 := by
  have hmask : 0xFFFFFF00#32 = BitVec.allOnes 32 <<< 8 := by decide
  apply BitVec.eq_of_getLsbD_eq
  intro i hi
  simp only [BitVec.ofNat_eq_ofNat, hmask, BitVec.getLsbD_and, BitVec.getLsbD_append, BitVec.getLsbD_shiftLeft,
    BitVec.getLsbD_allOnes, BitVec.getLsbD_extractLsb']
  by_cases hlow : i < 8
  · simp [hlow]
  · have hpos : 8 + (i - 8) = i := by omega
    have htop : i - 8 < 24 := by omega
    have hin : i - 8 < 32 := by omega
    simp [hlow, hi, hpos, htop, hin]

/-- A word written to NONCE is read back, without the low byte of the last word. -/
theorem nonceWord_setNonceWord_same (n : BitVec 88) (v : Word) (k : Fin 3) :
    nonceWord (setNonceWord n k v) k = if k = 2 then v &&& 0xFFFFFF00 else v := by
  rw [word_and_mask]
  fin_cases k
  · exact BitVec.extractLsb'_append_eq_left
  · exact (BitVec.extractLsb'_append_eq_of_le (xhi := n.extractLsb' 56 32 ++ v) (by decide)).trans
      BitVec.extractLsb'_append_eq_right
  · exact congrArg (· ++ 0#8) BitVec.extractLsb'_append_eq_right

/-- Writing a word of NONCE changes that word alone: the bits of another word lie in the part of NONCE that is kept. -/
theorem nonceWord_setNonceWord_of_ne (n : BitVec 88) (v : Word) {j k : Fin 3} (h : j ≠ k) :
    nonceWord (setNonceWord n k v) j = nonceWord n j := by
  apply BitVec.eq_of_getLsbD_eq
  intro i hi
  fin_cases k <;> fin_cases j <;> simp [nonceWord, setNonceWord, hi] at h ⊢
  all_goals grind

end Sys2Proof.Machine

end

/-! ## What the host sees and can write (O22, O34, O42, O43, O44, O45, O46, O48, O49, O50) -/

section

namespace Sys2Proof.Machine

/-! ### The flag words, bit by bit (R43, R53, R54) -/

theorem intenWord_eq_concat (s : State) : s.intenWord = ((0#30).concat s.errIe).concat s.doneIe := rfl

theorem intstatWord_eq_concat (s : State) : s.intstatWord = ((0#30).concat s.erri).concat s.done := rfl

theorem statusWord_eq_concat (s : State) :
    s.statusWord =
      ((((((((0#20 ++ s.errcode).concat s.short).concat s.ctphase).concat s.authFail).concat s.authOk).concat
        s.tagv).concat s.zvalid).concat s.err).concat s.busy := rfl

/-- INTEN reads back the two bits written to it. -/
theorem intenWord_store (s : State) (v : Word) : (s.store .inten v).intenWord = v &&& 0x3 := by
  apply BitVec.eq_of_getLsbD_eq
  intro i _
  have hmask : (0x3 : Word) = ((0#30).concat true).concat true := by decide
  rw [intenWord_eq_concat, hmask]
  rcases i with _ | _ | i <;> simp [State.store]

/-- INTSTAT keeps the bits written as 0. -/
theorem intstatWord_store (s : State) (v : Word) : (s.store .intstat v).intstatWord = s.intstatWord &&& ~~~v := by
  apply BitVec.eq_of_getLsbD_eq
  intro i _
  rw [intstatWord_eq_concat, intstatWord_eq_concat]
  rcases i with _ | _ | i <;> simp [State.store]

/-- Above the eight flags STATUS holds ERRCODE and zeros. -/
theorem getLsbD_statusWord_add_eight (s : State) (j : Nat) :
    s.statusWord.getLsbD (8 + j) = (0#20 ++ s.errcode).getLsbD j := by
  rw [statusWord_eq_concat]
  simp [BitVec.getLsbD_concat]

theorem extractLsb'_statusWord (s : State) : s.statusWord.extractLsb' 8 4 = s.errcode := by
  ext j hj
  rw [BitVec.getElem_extractLsb', getLsbD_statusWord_add_eight, BitVec.getLsbD_append, if_pos hj,
    BitVec.getLsbD_eq_getElem hj]

theorem getLsbD_statusWord_of_le (s : State) {j : Nat} (hj : 12 ≤ j) : s.statusWord.getLsbD j = false := by
  have hpos : 8 + (j - 8) = j := by omega
  have hhigh : ¬ j - 8 < 4 := by omega
  rw [← hpos, getLsbD_statusWord_add_eight, BitVec.getLsbD_append, if_neg hhigh, BitVec.getLsbD_zero]

/-! ### What a register shows after an accepted write (R102) -/

theorem blockWord_setBlockWord_same (b : Block) (v : Word) (k : Fin 4) : blockWord (setBlockWord b k v) k = v :=
  (blockWord_setBlockWord b v k.isLt).trans (if_pos rfl)

theorem blockWord_setBlockWord_of_ne (b : Block) (v : Word) {k j : Fin 4} (h : j ≠ k) :
    blockWord (setBlockWord b k v) j = blockWord b j :=
  (blockWord_setBlockWord b v j.isLt).trans (if_neg (Fin.val_ne_of_ne h))

/-- A write that issues no command changes what its own register shows and no other. -/
theorem State.view_store_of_ne (s : State) {r r' : Reg} (v : Word) (hcmd : r ≠ .cmd) (hr : r' ≠ r) :
    (s.store r v).view r' = s.view r' := by
  cases r with
  | cmd => exact absurd rfl hcmd
  | inten =>
    cases r' with
    | inten => exact absurd rfl hr
    | _ => rfl
  | intstat =>
    cases r' with
    | intstat => exact absurd rfl hr
    | _ => rfl
  | nonce k =>
    cases r' with
    | nonce j => exact nonceWord_setNonceWord_of_ne _ _ (mt (congrArg Reg.nonce) hr)
    | _ => rfl
  | ctr =>
    cases r' with
    | ctr => exact absurd rfl hr
    | _ => rfl
  | data k =>
    cases r' with
    | data j => exact blockWord_setBlockWord_of_ne _ _ (mt (congrArg Reg.data) hr)
    | _ => rfl
  | tagin k =>
    cases r' with
    | tagin j => exact blockWord_setBlockWord_of_ne _ _ (mt (congrArg Reg.tagin) hr)
    | _ => rfl
  | _ => rfl

/-- An operand shows the word written to it, NONCE2 without its low byte (R55–R60). -/
theorem State.view_store_operand (s : State) {r : Reg} (v : Word) (hlocked : r.busyLocked = true) (hcmd : r ≠ .cmd) :
    (s.store r v).view r = if r = .nonce 2 then v &&& 0xFFFFFF00 else v := by
  cases r with
  | cmd => exact absurd rfl hcmd
  | nonce k =>
    simp only [Reg.nonce.injEq]
    exact nonceWord_setNonceWord_same s.nonce v k
  | ctr => rfl
  | data k => exact blockWord_setBlockWord_same s.data v k
  | tagin k => exact blockWord_setBlockWord_same s.tagin v k
  | _ => cases hlocked

/-- While BUSY = 1 only INTEN and INTSTAT accept a write (R105). -/
theorem State.eq_inten_or_intstat_of_busy {s : State} {r : Reg} {strb : BitVec 4} (hbusy : s.busy = true)
    (hw : s.writeRefused r strb = false) : r = .inten ∨ r = .intstat := by
  obtain ⟨⟨hro, -⟩, hlocked⟩ : (r.readOnly = false ∧ _) ∧ r.busyLocked = false := by
    simpa [State.writeRefused, hbusy] using hw
  cases r with
  | inten => exact .inl rfl
  | intstat => exact .inr rfl
  | cmd | nonce | ctr | data | tagin => cases hlocked
  | _ => cases hro

/-! ### What the host reads -/

/-- Settles O34: no register of the window shows HKEY. -/
theorem keyNotReadable : Obligations.KeyNotReadable := by
  intro s k off
  refine State.regRead_congr fun r _ => ?_
  cases r <;> rfl

/-- Settles O44. -/
theorem irqLevel : Obligations.IrqLevel := by
  intro s
  rw [State.irq, Bool.or_eq_true, Bool.and_eq_true, Bool.and_eq_true]

/-- Settles O45. -/
theorem identityRegisters : Obligations.IdentityRegisters := fun s =>
  ⟨s.regRead_offset .id, s.regRead_offset .param⟩

/-- Settles O46. -/
theorem statusLayout : Obligations.StatusLayout := by
  intro s
  refine ⟨s.statusWord, s.regRead_offset .status, ?_, ?_, ?_, ?_, ?_, ?_, ?_, ?_, extractLsb'_statusWord s,
    fun j hj => getLsbD_statusWord_of_le s hj⟩ <;>
  · rw [statusWord_eq_concat]
    simp

/-- Settles O50. -/
theorem resetValues : Obligations.ResetValues := by
  unfold Obligations.ResetValues
  decide

/-- The two words of a length register, the high one at the lower offset (R63, R64). -/
theorem toNat_lengthWords (x : BitVec 64) :
    x.toNat = (x.extractLsb' 32 32).toNat * 2 ^ 32 + (x.extractLsb' 0 32).toNat := by
  simp only [BitVec.extractLsb'_toNat, Nat.shiftRight_eq_div_pow, pow_zero, Nat.div_one]
  omega

/-- Settles O22: a word of a block by its four bytes, and each word read at the offset of its register. -/
theorem blockWordMapping : Obligations.BlockWordMapping := by
  refine ⟨fun b k hk => ⟨fun j hj => extractLsb'_blockWord b hk hj, toNat_blockWord b hk,
    fun v j hj => blockWord_setBlockWord b v hj⟩, fun s k hk => ?_, fun s => ?_⟩
  · exact ⟨s.regRead_offset (.data ⟨k, hk⟩), s.regRead_offset (.tagin ⟨k, hk⟩), s.regRead_offset (.tag ⟨k, hk⟩),
      s.regRead_offset (.acc ⟨k, hk⟩)⟩
  · exact ⟨_, _, _, _, s.regRead_offset .alenHi, s.regRead_offset .alenLo, toNat_lengthWords s.alen,
      s.regRead_offset .clenHi, s.regRead_offset .clenLo, toNat_lengthWords s.clen⟩

/-! ### What the host writes -/

theorem State.writeRefused_inten (s : State) : s.writeRefused .inten 0b1111 = false := by
  simp [State.writeRefused, Reg.readOnly, Reg.busyLocked]

theorem State.writeRefused_intstat (s : State) : s.writeRefused .intstat 0b1111 = false := by
  simp [State.writeRefused, Reg.readOnly, Reg.busyLocked]

/-- A full-word write to a register that is not read-only is accepted while BUSY = 0. -/
theorem State.writeRefused_of_idle {s : State} {r : Reg} (hbusy : s.busy = false) (hro : r.readOnly = false) :
    s.writeRefused r 0b1111 = false := by
  simp [State.writeRefused, hbusy, hro]

/-- Settles O43. -/
theorem intstatWriteOneClears : Obligations.IntstatWriteOneClears := by
  intro s v
  have hw : s.regWrite 0x014 v 0b1111 = (s.store .intstat v, .written) :=
    State.regWrite_offset v s.writeRefused_intstat
  rw [hw]
  refine ⟨rfl, ?_⟩
  rw [← intstatWord_store]
  exact State.regRead_offset _ .intstat

theorem Reg.offset_inj {r r' : Reg} : r.offset = r'.offset ↔ r = r' := by
  rw [← regAt_eq_some_iff, regAt_offset, Option.some.injEq]

/-- The aligned offsets 0x020 to 0x04C hold the operands (R36). -/
theorem exists_operand_at {off : BitVec 12} (hlo : 0x020 ≤ off.toNat) (hhi : off.toNat < 0x050)
    (halign : off.toNat % 4 = 0) :
    ∃ r : Reg, off = r.offset ∧ r.readOnly = false ∧ r.busyLocked = true ∧ r ≠ .cmd := by
  have hres : (regAt off).isNone = false := by
    rw [regAt_isNone]
    simp [offsetReserved]
    omega
  obtain ⟨r, hr⟩ := Option.isSome_iff_exists.mp (Option.isNone_eq_false_iff.mp hres)
  obtain ⟨hro, hlocked⟩ := regAt_kind hr
  refine ⟨r, eq_offset_of_regAt hr, hro.trans ?_, hlocked.trans ?_, ?_⟩
  · simp [offsetReadOnly]
    omega
  · simp [offsetBusyLocked]
    omega
  · rintro rfl
    rw [eq_offset_of_regAt hr] at hlo
    exact absurd hlo (by decide)

/-- An operand reads back as written while BUSY = 0 (R39, R102). -/
theorem operand_reads_back {s : State} {off : BitVec 12} (v : Word) (hbusy : s.busy = false) (hlo : 0x020 ≤ off.toNat)
    (hhi : off.toNat < 0x050) (halign : off.toNat % 4 = 0) :
    (s.regWrite off v 0b1111).1.regRead off = .value (if off = 0x028 then v &&& 0xFFFFFF00 else v) := by
  obtain ⟨r, rfl, hro, hlocked, hcmd⟩ := exists_operand_at hlo hhi halign
  have hnonce2 : r.offset = 0x028 ↔ r = .nonce 2 := Reg.offset_inj (r' := .nonce 2)
  rw [State.regWrite_offset v (State.writeRefused_of_idle hbusy hro), State.regRead_offset,
    State.view_store_operand s v hlocked hcmd]
  simp only [hnonce2]

/-- CMD reads 0 (R42). -/
theorem cmd_reads_zero (s : State) : s.regRead 0x008 = .value 0 := s.regRead_offset .cmd

/-- A write to INTEN sets its two bits and reads back in them, at every BUSY (R53, R105). -/
theorem inten_reads_back (s : State) (v : Word) :
    s.regWrite 0x010 v 0b1111 = ({ s with doneIe := v.getLsbD 0, errIe := v.getLsbD 1 }, .written) ∧
    (s.regWrite 0x010 v 0b1111).1.regRead 0x010 = .value (v &&& 0x3) := by
  have hw : s.regWrite 0x010 v 0b1111 = (s.store .inten v, .written) := State.regWrite_offset v s.writeRefused_inten
  rw [hw]
  refine ⟨rfl, ?_⟩
  rw [← intenWord_store s]
  exact State.regRead_offset _ .inten

/-- Unless a write issues a command, every offset but its own reads as before (R102, R104). -/
theorem regWrite_reads_elsewhere {s : State} {off off' : BitVec 12} (v : Word) {strb : BitVec 4}
    (hissue : off ≠ 0x008 ∨ s.busy = true) (hoff : off' ≠ off) :
    (s.regWrite off v strb).1.regRead off' = s.regRead off' := by
  obtain hw | ⟨r, hr, hacc, hw⟩ := s.regWrite_cases off v strb <;> rw [hw]
  have hcmd : r ≠ .cmd := by
    rintro rfl
    obtain h | h := hissue
    · exact h (eq_offset_of_regAt hr)
    · obtain h | h := State.eq_inten_or_intstat_of_busy h hacc <;> cases h
  refine State.regRead_congr fun r' hr' => s.view_store_of_ne v hcmd ?_
  rintro rfl
  exact hoff (hr'.trans (eq_offset_of_regAt hr).symm)

/-- Settles O42, a lemma for each of its four clauses. -/
theorem writeReadsBack : Obligations.WriteReadsBack := by
  intro s off v
  refine ⟨operand_reads_back v, ?_, ?_, fun hissue _ hoff => regWrite_reads_elsewhere v hissue hoff⟩
  · rintro - rfl
    exact cmd_reads_zero _
  · rintro rfl
    exact inten_reads_back s v

/-- Settles O48: such an event keeps the registers or stores into one, and no store writes these. -/
theorem hostCannotWriteResults : Obligations.HostCannotWriteResults := by
  intro e s t hcore hrst h
  cases eventEnds_of_takeInput h with
  | keeps h =>
    obtain ⟨_, _, _, _, _, rfl⟩ := h
    simp
  | stores _ _ _ h =>
    obtain ⟨_, _, _, _, _, rfl⟩ := h
    simp
  | resets he => exact absurd he hrst
  | fails he => exact absurd he hcore
  | commits he => exact absurd he hcore

/-! ### Between issue and commit (R44, R105, R360) -/

/-- States with the same registers read the same. -/
theorem State.SameRegs.regRead {s t : State} (h : s.SameRegs t) (off : BitVec 12) : t.regRead off = s.regRead off := by
  obtain ⟨_, _, _, _, _, rfl⟩ := h
  exact State.regRead_congr fun r _ => by cases r <;> rfl

theorem State.SameRegs.busy {s t : State} (h : s.SameRegs t) : t.busy = s.busy := by
  obtain ⟨_, _, _, _, _, rfl⟩ := h
  rfl

/-- The issue changes no register but STATUS. -/
theorem State.view_issue (s : State) (v : Word) {r : Reg} (h : r ≠ .status) : (s.issue v).view r = s.view r := by
  cases r with
  | status => exact absurd rfl h
  | _ => rfl

/-- While a command is issued, an accepted write changes what INTEN and INTSTAT show and nothing else. -/
theorem State.regRead_store_of_busy {s : State} {r : Reg} {strb : BitVec 4} {off : BitVec 12} (v : Word)
    (hbusy : s.busy = true) (hw : s.writeRefused r strb = false) (hinten : off ≠ 0x010) (hintstat : off ≠ 0x014) :
    (s.store r v).regRead off = s.regRead off := by
  refine State.regRead_congr fun r' hr' => ?_
  obtain rfl | rfl := State.eq_inten_or_intstat_of_busy hbusy hw
  · exact s.view_store_of_ne v (by decide) (by rintro rfl; exact hinten hr')
  · exact s.view_store_of_ne v (by decide) (by rintro rfl; exact hintstat hr')

/-- Settles O49: of the ends of an event, a reset and a commit leave BUSY = 0, and a store goes to INTEN or INTSTAT. -/
theorem issueHidesResults : Obligations.IssueHidesResults := by
  refine ⟨fun s v off hoff => ?_, fun s t off hbusy hst htbusy hinten hintstat => ?_⟩
  · exact State.regRead_congr fun r hr => s.view_issue v (by rintro rfl; exact hoff hr)
  · have hpop : s.SameRegs { s with inputs := s.inputs.tail } := ⟨_, _, _, _, _, rfl⟩
    rw [← hpop.regRead off]
    cases eventEnds_of_takeInput ((step_eq_takeInput s).symm.trans hst) with
    | keeps h => exact h.regRead off
    | stores _ _ hw h => exact (h.regRead off).trans (State.regRead_store_of_busy _ hbusy hw hinten hintstat)
    | resets _ h => exact absurd (h.busy.symm.trans htbusy) Bool.noConfusion
    | fails _ h => exact absurd (h ▸ htbusy) Bool.noConfusion
    | commits _ _ h => exact absurd (h ▸ htbusy) Bool.noConfusion

end Sys2Proof.Machine

end

/-! ## The step and the decoder (O52) -/

section

namespace Sys2Proof.Machine

theorem coreTurn_of_cmd {s : State} {i : Instr} (hr : s.rstn = true) (hb : s.busy = true)
    (hd : decode s.lcmd = .cmd i) : coreTurn s = exec i s := by
  simp [coreTurn, hr, hb, hd]

theorem coreTurn_of_bad {s : State} {e : CmdError} (hr : s.rstn = true) (hb : s.busy = true)
    (hd : decode s.lcmd = .bad e) : coreTurn s = .next (s.failedWith e.code []) := by
  simp [coreTurn, hr, hb, hd, State.fail_eq_failedWith]

theorem step_of_core {s : State} {rest : List Input} (h : s.inputs = .core :: rest) :
    step s = coreTurn { s with inputs := rest } :=
  step_of_input h

theorem ofNat_mod_word (w : Nat) : BitVec.ofNat 32 (w % 2 ^ 32) = BitVec.ofNat 32 w :=
  BitVec.eq_of_toNat_eq (by simp)

/-- The decoder's reading of a 32-bit table row is its reading of the command word (R130). -/
theorem decode_of_decodeTableWord {w : Nat} {i : Instr} (h : decodeTableWord 32 w = some i) :
    decode (BitVec.ofNat 32 w) = .cmd i := by
  rw [decodeTableWord, if_pos (by decide), ofNat_mod_word] at h
  cases hd : decode (BitVec.ofNat 32 w) with
  | cmd j => simpa [hd] using h
  | bad e => simp [hd] at h

/-- The step after placing a word is the core's turn on it (log entry 9). -/
theorem step_placeCommand (s : State) (w : Word) :
    step (placeCommand s w) =
      coreTurn { s with lcmd := w, busy := true, err := false, errcode := 0, rstn := true } :=
  rfl

/-- Settles O52. -/
theorem stepRunsDecodedCommand : Obligations.StepRunsDecodedCommand := by
  refine ⟨fun s i hr hb hd => ⟨fun h => ?_, fun rest h => ?_⟩, fun s e hr hb hd => ⟨fun h => ?_, fun rest h => ?_⟩,
    fun s w i h => ?_⟩
  · exact (step_of_no_input h).trans (coreTurn_of_cmd hr hb hd)
  · exact (step_of_core h).trans (coreTurn_of_cmd hr hb hd)
  · exact (step_of_no_input h).trans (coreTurn_of_bad hr hb hd)
  · exact (step_of_core h).trans (coreTurn_of_bad hr hb hd)
  · rw [State.withFetchWord, ofNat_mod_word]
    exact (step_placeCommand s _).trans (coreTurn_of_cmd rfl rfl (decode_of_decodeTableWord h))

end Sys2Proof.Machine

end

/-! ## The bus and the BCE (O39, O40, O41, O47, O57) -/

section

namespace Sys2Proof.Machine

/-! ### Host reads and refused accesses (R101, R104) -/

theorem takeInput_read {s : State} (off : BitVec 12) (hr : s.rstn = true) :
    takeInput (.read off) s = .next { s with resp := s.regRead off } :=
  congrArg Host.Outcome.next (if_pos hr)

/-- Settles O41: the registers a read leaves are those it read. -/
theorem readsHaveNoSideEffect : Obligations.ReadsHaveNoSideEffect := by
  intro s off hr
  refine ⟨takeInput_read off hr, fun t ht => ?_⟩
  cases ht
  exact (sameRegs_hostRead s off).regRead off

/-- A read is refused at the reserved offsets and nowhere else (R104 items 1 and 2). -/
theorem State.regRead_eq_error_iff (s : State) (off : BitVec 12) :
    s.regRead off = .error ↔ offsetReserved off.toNat = true := by
  rw [← regAt_isNone]
  cases hr : regAt off with
  | none => simp [State.regRead, hr]
  | some r => simp [State.regRead_of_regAt hr]

/-- A write to the register at an offset is refused under items 3 to 5 of R104, read from the offset. -/
theorem State.writeRefused_iff (s : State) {off : BitVec 12} {r : Reg} (strb : BitVec 4) (hr : regAt off = some r) :
    s.writeRefused r strb = true ↔
      offsetReadOnly off.toNat = true ∨ strb ≠ 0b1111 ∨ (s.busy = true ∧ offsetBusyLocked off.toNat = true) := by
  obtain ⟨hro, hlocked⟩ := regAt_kind hr
  simp [State.writeRefused, hro, hlocked, or_assoc]

/-- Settles O40: an offset without a register is a reserved one, and at a register the offset says which writes are refused. -/
theorem accessRefusedExactly : Obligations.AccessRefusedExactly := by
  intro s off v strb
  refine ⟨s.regRead_eq_error_iff off, ?_⟩
  rw [← regAt_isNone]
  cases hr : regAt off with
  | none => simp [State.regWrite, hr]
  | some r =>
    rw [← s.writeRefused_iff strb hr]
    cases hw : s.writeRefused r strb <;> simp [State.regWrite, hr, hw]

/-! ### The events around a command in progress (R105, R114) -/

/-- What an event other than the core's turn and a reset can do: it moves a pin, the port's response or the BCE's flag, or
it is an accepted write. Unlike `EventEnds`, it says that the coming events and the BCE's answers stay. -/
inductive PortEnds (s : State) : State → Prop where
  | keeps (rstn : Bool) (resp : BusResp) (answers : Bool) :
      PortEnds s { s with rstn := rstn, resp := resp, bceAnswers := answers }
  | stores {r : Reg} {strb : BitVec 4} (v : Word) (hw : s.writeRefused r strb = false) :
      PortEnds s { s.store r v with resp := .written }

theorem portEnds_hostRead (s : State) (off : BitVec 12) : PortEnds s (s.hostRead off) := by
  unfold State.hostRead
  split <;> exact .keeps _ _ _

theorem portEnds_hostWrite (s : State) (off : BitVec 12) (v : Word) (strb : BitVec 4) :
    PortEnds s (s.hostWrite off v strb) := by
  unfold State.hostWrite
  split
  · obtain hw | ⟨r, -, hacc, hw⟩ := s.regWrite_cases off v strb <;> rw [hw]
    · exact .keeps _ _ _
    · exact .stores v hacc
  · exact .keeps _ _ _

theorem portEnds_of_takeInput {e : Input} {s t : State} (hcore : e ≠ .core) (hrst : e ≠ .rst false)
    (h : takeInput e s = .next t) : PortEnds s t := by
  cases e with
  | core => exact absurd rfl hcore
  | read off => cases h; exact portEnds_hostRead s off
  | write off v strb => cases h; exact portEnds_hostWrite s off v strb
  | bce answers => cases h; exact .keeps _ _ answers
  | rst level =>
    cases level
    · exact absurd rfl hrst
    · cases h; exact .keeps true _ _

/-- Settles O47: while BUSY = 1 the only registers a write is accepted at are INTEN and INTSTAT. -/
theorem operandsHeldWhileBusy : Obligations.OperandsHeldWhileBusy := by
  intro e s t hbusy hcore hrst h
  cases portEnds_of_takeInput hcore hrst h with
  | keeps => rfl
  | stores v hw => obtain rfl | rfl := State.eq_inten_or_intstat_of_busy hbusy hw <;> rfl

/-! ### The BCE function is fixed for the run (R118, R122) -/

theorem State.store_bceTable (s : State) (r : Reg) (v : Word) : (s.store r v).bceTable = s.bceTable := by
  cases r <;> rfl

theorem Assigns.bceTable_eq {i : Instr} {s u : State} (ha : Assigns i s u) : u.bceTable = s.bceTable := by
  cases ha <;> rfl

theorem exec_keeps_bceTable {i : Instr} {s t : State} (h : exec i s = .next t) : t.bceTable = s.bceTable := by
  cases commandEnds_of_exec h with
  | waits => rfl
  | fails => rfl
  | commits ha => exact ha.bceTable_eq

theorem coreTurn_keeps_bceTable {s t : State} (h : coreTurn s = .next t) : t.bceTable = s.bceTable := by
  obtain ⟨-, hc⟩ | ⟨-, -, i, -, hc⟩ | ⟨-, -, e, -, hc⟩ := coreTurn_cases s <;> rw [hc] at h
  · cases h; rfl
  · exact exec_keeps_bceTable h
  · cases h; rfl

theorem takeInput_keeps_bceTable {e : Input} {s t : State} (h : takeInput e s = .next t) :
    t.bceTable = s.bceTable := by
  by_cases hcore : e = .core
  · subst hcore
    exact coreTurn_keeps_bceTable h
  by_cases hrst : e = .rst false
  · subst hrst
    cases h
    rfl
  cases portEnds_of_takeInput hcore hrst h with
  | keeps => rfl
  | stores v _ => exact s.store_bceTable _ v

/-- Settles O57: no event writes the table of known answers, which fixes the BCE function. -/
theorem stepKeepsBceFunction : Obligations.StepKeepsBceFunction := by
  intro s t h x
  rw [step_eq_takeInput] at h
  exact State.bce_congr (takeInput_keeps_bceTable h) x

/-! ### The BCE calls of a command (R120) -/

/-- The checks before the BCE calls never report BCE_FAIL (R302). -/
theorem code_ne_seven_of_refusedBy {i : Instr} {s : State} {e : CmdError} (h : refusedBy i s = some e) :
    e.code ≠ 7 := by
  cases e with
  | bceFail =>
    cases i with
    | hashAad | hashCt | ctrXor => simp only [refusedBy] at h; split_ifs at h <;> cases h
    | _ => cases h
  | _ => decide

/-- What R120 says of the calls a command has made by the time it ends in `t`, `calls` being those its row lists. -/
def CallsInOrder (s : State) (calls : List Block) (t : State) : Prop :=
  t.bceReqs <+: calls ∧
  (∀ x ∈ t.bceReqs.dropLast, ∃ y, s.bce x = .ok y) ∧
  (t.err = false → t.bceReqs = calls ∧ ∀ x ∈ t.bceReqs, ∃ y, s.bce x = .ok y) ∧
  (t.errcode = 7 ↔ ∃ x, t.bceReqs.getLast? = some x ∧ s.bce x = .err)

/-- A command refused by its checks has made no call. -/
theorem callsInOrder_refused {s : State} {code : BitVec 4} (calls : List Block) (hcode : code ≠ 7) :
    CallsInOrder s calls (s.failedWith code []) := by
  simpa [CallsInOrder, State.failedWith] using hcode

/-- A command ended by an `err` has made the calls up to that one. -/
theorem callsInOrder_failed {s : State} {pre : List Block} {x : Block} (post : List Block) (hx : s.bce x = .err)
    (hpre : ∀ z ∈ pre, ∃ y, s.bce z = .ok y) :
    CallsInOrder s (pre ++ x :: post) (s.failedWith 7 (pre ++ [x])) := by
  simpa [CallsInOrder, State.failedWith, hx] using hpre

/-- A command that commits its assignments has made all its calls. -/
theorem callsInOrder_committed {s u : State} {calls : List Block} (h : ∀ z ∈ calls, ∃ y, s.bce z = .ok y) :
    CallsInOrder s calls (u.committed calls) := by
  refine ⟨List.prefix_rfl, fun x hx => h x (List.mem_of_mem_dropLast hx), fun _ => ⟨rfl, h⟩, ?_⟩
  refine iff_of_false (by decide : (0 : BitVec 4) ≠ 7) ?_
  rintro ⟨x, hlast, herr⟩
  obtain ⟨y, hok⟩ := h x (List.mem_of_getLast? hlast)
  cases herr.symm.trans hok

/-- Settles O39, a lemma for each way a command ends while the BCE answers. -/
theorem bceCallsInOrder : Obligations.BceCallsInOrder := by
  intro i s t hans ht
  change CallsInOrder s (bceCalls i s) t
  obtain ⟨e, href, h⟩ | ⟨-, hnone, u, -, h⟩ | ⟨-, -, ⟨hoff, -⟩ | ⟨-, pre, x, post, hcalls, hx, hpre, h⟩ |
      ⟨-, hok, u, -, h⟩⟩ := exec_cases i s
  · cases h.symm.trans ht
    exact callsInOrder_refused _ (code_ne_seven_of_refusedBy href)
  · cases h.symm.trans ht
    rw [hnone]
    exact callsInOrder_committed (by simp)
  · exact absurd (hans.symm.trans hoff) Bool.noConfusion
  · cases h.symm.trans ht
    rw [hcalls]
    exact callsInOrder_failed post hx hpre
  · cases h.symm.trans ht
    exact callsInOrder_committed hok

end Sys2Proof.Machine

end

/-! ## The command word and its decoder (O1, O2, O3, O4, O5, O6) -/

section

namespace Sys2Proof.Machine

open Laws

/-! ### The decoder, said once (R131, R133) -/

/-- What the decoder answers to the word `w`: the first check of R133 that fails, or the command with the word's OP and
NBYTES. The codes 4 to 6 are those of the commands with a byte count. -/
inductive DecodesTo (w : Word) : Decoded → Prop where
  | rsvdSet (h : rsvdNat w ≠ 0) : DecodesTo w (.bad .rsvdBits)
  | opReserved (hr : rsvdNat w = 0) (hop : 10 ≤ opNat w) : DecodesTo w (.bad .illegalOp)
  | countGiven (hr : rsvdNat w = 0) (hop : opNat w < 10) (hbare : opNat w < 4 ∨ 6 < opNat w) (hn : nbytesNat w ≠ 0) :
      DecodesTo w (.bad .badLen)
  | command {i : Instr} (hr : rsvdNat w = 0) (hop : (opcodeOf i).toNat = opNat w) (hn : (nbytesOf i).toNat = nbytesNat w) :
      DecodesTo w (.cmd i)

theorem toNat_opcodeOf_lt (i : Instr) : (opcodeOf i).toNat < 10 := by
  cases i <;> simp [opcodeOf]

/-- Only the opcodes 4 to 6 take a byte count. -/
theorem nbytesOf_of_bare {i : Instr} (h : (opcodeOf i).toNat < 4 ∨ 6 < (opcodeOf i).toNat) : nbytesOf i = 0 := by
  cases i with
  | hashAad | hashCt | ctrXor => simp [opcodeOf] at h
  | _ => rfl

theorem decodesTo_withoutCount {w : Word} {i : Instr} (hr : rsvdNat w = 0) (hop : opNat w = (opcodeOf i).toNat)
    (hbare : (opcodeOf i).toNat < 4 ∨ 6 < (opcodeOf i).toNat) : DecodesTo w (withoutCount (nbytesField w) i) := by
  unfold withoutCount
  split
  next hn => exact .command hr hop.symm (by rw [nbytesOf_of_bare hbare, ← hn, toNat_nbytesField])
  next hn =>
    refine .countGiven hr (hop ▸ toNat_opcodeOf_lt i) (hop ▸ hbare) fun h => hn (BitVec.eq_of_toNat_eq ?_)
    rwa [toNat_nbytesField]

/-- What the decoder can answer. -/
theorem decode_decodesTo (w : Word) : DecodesTo w (decode w) := by
  by_cases hr : rsvdNat w = 0
  · rw [decode_of_no_rsvd hr, decodeOp, toNat_opField]
    split
    case h_5 hop | h_6 hop | h_7 hop => exact .command hr hop.symm (toNat_nbytesField w)
    case h_11 =>
      -- none of the ten opcodes
      exact .opReserved hr (by grind)
    all_goals exact decodesTo_withoutCount hr ‹_› (by decide)
  · rw [decode_of_rsvd hr]
    exact .rsvdSet hr

theorem decodeOp_opcodeOf (i : Instr) : decodeOp (opcodeOf i) (nbytesOf i) = .cmd i := by
  cases i <;> rfl

/-- The three fields of a command's word. -/
theorem encode_fields (i : Instr) : WordFields.Statement i := by
  cases i with
  | nop => exact WordFields.nop
  | deriveZ => exact WordFields.deriveZ
  | loadZ => exact WordFields.loadZ
  | msgInit => exact WordFields.msgInit
  | hashAad n => exact WordFields.hashAad n
  | hashCt n => exact WordFields.hashCt n
  | ctrXor n => exact WordFields.ctrXor n
  | tagGen => exact WordFields.tagGen
  | tagCheck => exact WordFields.tagCheck
  | clear => exact WordFields.clear

/-- A word whose fields are those of a command decodes to it. -/
theorem decode_of_fields {w : Word} {i : Instr} (hr : rsvdField w = 0) (hop : opField w = opcodeOf i)
    (hn : nbytesField w = nbytesOf i) : decode w = .cmd i := by
  rw [decode_of_no_rsvd ((rsvdField_eq_zero w).mp hr), hop, hn, decodeOp_opcodeOf]

/-- Settles O2, by the fields of a command's word. -/
theorem decodeOfEncode : Obligations.DecodeOfEncode := by
  intro i
  obtain ⟨hop, hn, hr⟩ := encode_fields i
  exact decode_of_fields hr hop hn

/-- A word decodes to a command exactly when its three fields are the command's. -/
theorem decode_eq_cmd_iff {w : Word} {i : Instr} :
    decode w = .cmd i ↔ rsvdNat w = 0 ∧ opNat w = (opcodeOf i).toNat ∧ nbytesNat w = (nbytesOf i).toNat := by
  refine ⟨fun h => ?_, fun ⟨hr, hop, hn⟩ => ?_⟩
  · obtain - | - | - | ⟨hr, hop, hn⟩ := h ▸ decode_decodesTo w
    exact ⟨hr, hop.symm, hn.symm⟩
  · rw [← toNat_opField] at hop
    rw [← toNat_nbytesField] at hn
    exact decode_of_fields ((rsvdField_eq_zero w).mpr hr) (BitVec.eq_of_toNat_eq hop) (BitVec.eq_of_toNat_eq hn)

/-- Settles O3: the word is the number its three fields make up. -/
theorem acceptedWordsAreCommandWords : Obligations.AcceptedWordsAreCommandWords := by
  intro w i
  rw [decode_eq_cmd_iff, toNat_word w]
  have hop : opNat w < 256 := Nat.mod_lt _ (by decide)
  have hn : nbytesNat w < 32 := Nat.mod_lt _ (by decide)
  have hop' := (opcodeOf i).isLt
  have hn' := (nbytesOf i).isLt
  omega

/-- Settles O4, clause by clause for each of the decoder's four answers. -/
theorem decodeChecksInOrder : Obligations.DecodeChecksInOrder := by
  intro w
  have h := decode_decodesTo w
  generalize decode w = d at h ⊢
  cases h with
  | rsvdSet h => exact ⟨fun _ => rfl, fun hr => absurd hr h, fun hr => absurd hr h, fun hr => absurd hr h⟩
  | opReserved hr hop =>
    exact ⟨absurd hr, fun _ _ => rfl, fun _ hlt => absurd hop hlt.not_ge, fun _ hlt => absurd hop hlt.not_ge⟩
  | countGiven hr hop hbare hn =>
    exact ⟨absurd hr, fun _ hge => absurd hge hop.not_ge, fun _ _ _ _ => rfl, fun _ _ hok => by omega⟩
  | @command i hr hop hn =>
    refine ⟨absurd hr, fun _ hge => ?_, fun _ _ hbare hne => ?_, fun _ _ _ => ⟨i, rfl, hop, hn⟩⟩
    · exact absurd (hop ▸ hge) (toNat_opcodeOf_lt i).not_ge
    · rw [← hop] at hbare
      exact absurd (hn.symm.trans (congrArg BitVec.toNat (nbytesOf_of_bare hbare))) hne

/-- Settles O1: each word of the table is decoded. -/
theorem tableWordsDecode : Obligations.TableWordsDecode := by
  unfold Obligations.TableWordsDecode
  decide

/-! ### Words that name no command, and byte counts out of range (R131, R134) -/

/-- Settles O5: such a word decodes to an error, and the word of NOP is 0. -/
theorem reservedWordsDoNothing : Obligations.ReservedWordsDoNothing := by
  refine ⟨fun s hr hb hz hop => ?_, fun s hr hb hnz => ?_, fun w => ?_⟩
  · obtain ⟨-, hres, -⟩ := decodeChecksInOrder s.lcmd
    exact coreTurn_of_bad hr hb (hres hz hop)
  · exact coreTurn_of_bad hr hb (decode_of_rsvd hnz)
  · exact (acceptedWordsAreCommandWords w .nop).trans (BitVec.toNat_inj (y := 0#32))

/-- A command refused by a check commits that error and makes no BCE call. -/
theorem exec_of_refusedBy {i : Instr} {s : State} {e : CmdError} (h : refusedBy i s = some e) :
    exec i s = .next (s.failedWith e.code []) := by
  obtain ⟨e', he, hx⟩ | ⟨hnone, -⟩ | ⟨hnone, -⟩ := exec_cases i s
  · cases h.symm.trans he
    exact hx
  · cases h.symm.trans hnone
  · cases h.symm.trans hnone

/-- A command is refused for its byte count exactly when the count is outside its opcode's range. -/
theorem refusedBy_eq_badLen_iff (i : Instr) (s : State) :
    refusedBy i s = some .badLen ↔ lengthInRange (opcodeOf i).toNat (nbytesOf i).toNat = false := by
  cases i with
  | hashAad n | hashCt n | ctrXor n =>
    simp only [refusedBy, opcodeOf, nbytesOf, BitVec.reduceToNat]
    split_ifs <;> simp_all
  | _ => exact iff_of_false nofun (by decide)

theorem code_ne_three {e : CmdError} (h : e ≠ .badLen) : e.code ≠ 3 := by
  cases e with
  | badLen => exact absurd rfl h
  | _ => decide

/-- While the BCE answers, a command with an acceptable byte count commits something other than BAD_LEN. -/
theorem exec_errcode_ne_three {i : Instr} {s : State} (hlen : refusedBy i s ≠ some .badLen) (hans : s.bceAnswers = true) :
    ∃ t, exec i s = .next t ∧ t.errcode ≠ 3 := by
  obtain ⟨e, he, hx⟩ | ⟨-, -, u, -, hx⟩ | ⟨-, -, ⟨hoff, -⟩ | ⟨-, pre, x, -, -, -, -, hx⟩ | ⟨-, -, u, -, hx⟩⟩ :=
    exec_cases i s
  · exact ⟨_, hx, code_ne_three fun h => hlen (h ▸ he)⟩
  · exact ⟨_, hx, (by decide : (0 : BitVec 4) ≠ 3)⟩
  · exact absurd (hans.symm.trans hoff) Bool.noConfusion
  · exact ⟨_, hx, (by decide : (7 : BitVec 4) ≠ 3)⟩
  · exact ⟨_, hx, (by decide : (0 : BitVec 4) ≠ 3)⟩

theorem lengthInRange_of_bare {op n : Nat} (h : op < 4 ∨ 6 < op) (hn : n ≠ 0) : lengthInRange op n = false := by
  simp only [lengthInRange, Bool.or_eq_true, decide_eq_true_eq]
  rw [if_neg (by omega), if_neg (by omega)]
  exact beq_false_of_ne hn

/-- Settles O6: the decoder refuses the byte counts of the commands that take none, and the other commands refuse theirs. -/
theorem byteCountRange : Obligations.ByteCountRange := by
  intro s hr hb hz hop
  have h := decode_decodesTo s.lcmd
  generalize hd : decode s.lcmd = d at h
  cases h with
  | rsvdSet hnz => exact absurd hz hnz
  | opReserved _ hge => exact absurd hop hge.not_gt
  | countGiven _ _ hbare hn =>
    rw [lengthInRange_of_bare hbare hn]
    exact ⟨fun _ => coreTurn_of_bad hr hb hd, nofun⟩
  | @command i _ hi hn =>
    rw [← hi, ← hn, coreTurn_of_cmd hr hb hd]
    refine ⟨fun hout => exec_of_refusedBy ((refusedBy_eq_badLen_iff i s).mpr hout), fun hin hans => ?_⟩
    have hlen : refusedBy i s ≠ some .badLen := fun h => by simp [(refusedBy_eq_badLen_iff i s).mp h] at hin
    obtain ⟨t, hx, ht⟩ := exec_errcode_ne_three hlen hans
    exact ⟨i, t, rfl, rfl, hx, ht⟩

end Sys2Proof.Machine

end

/-! ## The frame of the commands (O19) -/

section

namespace Sys2Proof.Machine

/-- From `s` to `t` nothing has changed but what the row of `i` in R132 lists as written, and what every
commit writes. -/
def KeepsRow (i : Instr) (s t : State) : Prop :=
  (opcodeOf i ∉ [1#8, 2#8, 9#8] → t.hkey = s.hkey ∧ t.zvalid = s.zvalid) ∧
  (opcodeOf i ∉ [3#8, 4#8, 5#8, 9#8] → t.acc = s.acc ∧ t.short = s.short) ∧
  (opcodeOf i ∉ [3#8, 4#8, 9#8] → t.alen = s.alen) ∧
  (opcodeOf i ∉ [3#8, 5#8, 9#8] → t.clen = s.clen ∧ t.ctphase = s.ctphase) ∧
  (opcodeOf i ∉ [3#8, 6#8, 9#8] → t.ctr = s.ctr) ∧
  (opcodeOf i ∉ [6#8, 8#8, 9#8] → t.data = s.data) ∧
  (opcodeOf i ∉ [3#8, 7#8, 8#8, 9#8] →
    t.tag = s.tag ∧ t.tagv = s.tagv ∧ t.authOk = s.authOk ∧ t.authFail = s.authFail) ∧
  (opcodeOf i ≠ 9#8 → t.nonce = s.nonce ∧ t.tagin = s.tagin) ∧
  t.doneIe = s.doneIe ∧ t.errIe = s.errIe ∧ t.lcmd = s.lcmd ∧ t.rstn = s.rstn ∧ t.resp = s.resp ∧
  t.bceAnswers = s.bceAnswers ∧ t.bceTable = s.bceTable ∧ t.inputs = s.inputs

theorem KeepsRow.refl (i : Instr) (s : State) : KeepsRow i s s := by
  simp [KeepsRow]

/-- The assignments of each command touch the registers of its row only. -/
theorem Assigns.keepsRow {i : Instr} {s u : State} (ha : Assigns i s u) : KeepsRow i s u := by
  cases ha <;> simp [KeepsRow, opcodeOf]

/-- Settles O19: beside the command's assignments a commit writes only BUSY, ERR, ERRCODE, DONE, ERRI and the record of the
BCE calls, which no row speaks of. -/
theorem commandsWriteOnlyTheirRow : Obligations.CommandsWriteOnlyTheirRow := by
  intro i s t h
  change KeepsRow i s t
  cases commandEnds_of_exec h with
  | waits => exact .refl i s
  | fails => exact KeepsRow.refl i s
  | commits ha => exact ha.keepsRow

end Sys2Proof.Machine

end

/-! ## The layouts of the chunk word and of the counter block (O20, O21) -/

section

namespace Sys2Proof.Machine

open Finset

/-! ### A block as the sum of its bytes (R9) -/

theorem toNat_byte (b : Block) (i : Nat) : (byte b i).toNat = b.toNat / 256 ^ (15 - i) % 256 := by
  simp [byte, Nat.shiftRight_eq_div_pow, pow_mul]

/-- The low `k` digits of a number in base 256 make up its residue. -/
theorem sum_base256_digits (v k : Nat) : ∑ i ∈ range k, v / 256 ^ i % 256 * 256 ^ i = v % 256 ^ k := by
  induction k with
  | zero => simp [Nat.mod_one]
  | succ k ih => rw [sum_range_succ, ih, Nat.mod_pow_succ, Nat.mul_comm]

theorem toNat_eq_sum_bytes (b : Block) : b.toNat = ∑ i ∈ range 16, (byte b i).toNat * 256 ^ (15 - i) :=
  calc b.toNat = b.toNat % 256 ^ 16 := (Nat.mod_eq_of_lt b.isLt).symm
    _ = ∑ i ∈ range 16, b.toNat / 256 ^ i % 256 * 256 ^ i := (sum_base256_digits _ _).symm
    _ = ∑ i ∈ range 16, b.toNat / 256 ^ (15 - i) % 256 * 256 ^ (15 - i) := (sum_range_reflect _ 16).symm
    _ = ∑ i ∈ range 16, (byte b i).toNat * 256 ^ (15 - i) := by simp only [toNat_byte]

/-! ### The chunk word (R135) -/

theorem chunkNat_eq_sum (l : List Byte) (k : Nat) :
    chunkNat l k = ∑ i ∈ range l.length, (l.getD i 0).toNat * 256 ^ (11 - (k + i)) := by
  induction l generalizing k with
  | nil => rfl
  | cons b bs ih =>
    rw [chunkNat, ih, List.length_cons, sum_range_succ', add_comm]
    simp [pow_mul, add_assoc, add_comm 1]

theorem dataChunkNat_eq_sum (d : Block) (n : Nat) :
    dataChunkNat d n = ∑ i ∈ range n, (byte d i).toNat * 256 ^ (11 - i) := by
  rw [dataChunkNat, chunkNat_eq_sum, List.length_map, List.length_range]
  refine sum_congr rfl fun i hi => ?_
  simp [mem_range.mp hi]

/-- The first four bytes of the chunk word are 0. -/
theorem byte_chunkWord_low (d : Block) (n : Nat) {i : Nat} (hi : i < 4) : byte (chunkWord d n) i = 0#8 :=
  (byte_chunkWord d n (by omega)).trans (if_pos hi)

/-- The other twelve are DATA's first n bytes, then zeros. -/
theorem byte_chunkWord_add_four (d : Block) (n : Nat) {i : Nat} (hi : i < 12) :
    byte (chunkWord d n) (4 + i) = if i < n then byte d i else 0#8 := by
  rw [byte_chunkWord d n (by omega), if_neg (by omega), Nat.add_sub_cancel_left, BitVec.ofNat_eq_ofNat]

/-- be(Wb) is the sum of the chunk's bytes at their places: the other bytes of the word are 0. -/
theorem toNat_chunkWord (d : Block) {n : Nat} (hn : n ≤ 12) : (chunkWord d n).toNat = dataChunkNat d n := by
  have hlow : ∀ i ∈ range 4, (byte (chunkWord d n) i).toNat * 256 ^ (15 - i) = 0 := fun i hi => by
    rw [byte_chunkWord_low d n (mem_range.mp hi), BitVec.toNat_zero, Nat.zero_mul]
  have hchunk : ∀ i ∈ range n, (byte (chunkWord d n) (4 + i)).toNat * 256 ^ (15 - (4 + i)) =
      (byte d i).toNat * 256 ^ (11 - i) := fun i hi => by
    have hi := mem_range.mp hi
    rw [byte_chunkWord_add_four d n (by omega), if_pos hi, ← Nat.sub_sub]
  have hpad : ∀ i ∈ range 12, i ∉ range n →
      (byte (chunkWord d n) (4 + i)).toNat * 256 ^ (15 - (4 + i)) = 0 := fun i hi hin => by
    rw [byte_chunkWord_add_four d n (mem_range.mp hi), if_neg (mt mem_range.mpr hin), BitVec.toNat_zero, Nat.zero_mul]
  rw [toNat_eq_sum_bytes, sum_range_add _ 4 12, sum_eq_zero hlow, zero_add, dataChunkNat_eq_sum, ← sum_congr rfl hchunk,
    sum_subset (range_subset_range.mpr hn) hpad]

/-- The top word of the chunk word is 0. -/
theorem toNat_chunkWord_lt (d : Block) (n : Nat) : (chunkWord d n).toNat < 2 ^ 96 := by
  have htop : blockWord (chunkWord d n) 0 = 0#32 := word_ext_bytes fun j hj => by
    rw [extractLsb'_blockWord _ (by decide) hj, byte_chunkWord_low d n (by omega), BitVec.extractLsb'_zero]
  have hdiv : (0#32).toNat = (chunkWord d n).toNat / 2 ^ 96 % 2 ^ 32 := by rw [← htop, toNat_blockWord _ (by decide)]
  have hlt := (chunkWord d n).isLt
  rw [BitVec.toNat_zero] at hdiv
  omega

/-- Settles O20: the integer of the chunk word is the sum of its sixteen bytes, of which the first four are 0. -/
theorem chunkWordLayout : Obligations.ChunkWordLayout := by
  refine fun d n hn => ⟨fun i hi => ?_, toNat_chunkWord d hn, toNat_chunkWord_lt d n⟩
  by_cases h4 : i < 4
  · rw [if_neg (by omega)]
    exact byte_chunkWord_low d n h4
  · obtain ⟨j, rfl⟩ := Nat.exists_eq_add_of_le (Nat.le_of_not_lt h4)
    rw [byte_chunkWord_add_four d n (by omega), Nat.add_sub_cancel_left]
    simp

/-! ### The counter block (R136) -/

theorem extractLsb'_of_extractLsb' {w : Nat} (x : BitVec w) {a m b l c : Nat} (h : b + l ≤ m) (hc : a + b = c) :
    (x.extractLsb' a m).extractLsb' b l = x.extractLsb' c l := by
  subst hc
  ext i hi
  have hin : b + i < m := by omega
  simp [hin, Nat.add_assoc]

/-- Byte i of the nonce as the bus shows it, in word i / 4 (R55–R57). -/
theorem extractLsb'_nonceWord (n : BitVec 88) {i : Nat} (hi : i < 11) :
    (nonceWord n (i / 4)).extractLsb' (8 * (3 - i % 4)) 8 = n.extractLsb' (8 * (10 - i)) 8 := by
  obtain hk | hk | hk : i / 4 = 0 ∨ i / 4 = 1 ∨ i / 4 = 2 := by omega
  all_goals simp only [hk, nonceWord]
  · exact extractLsb'_of_extractLsb' n (by omega) (by omega)
  · exact extractLsb'_of_extractLsb' n (by omega) (by omega)
  · rw [BitVec.extractLsb'_append_eq_of_le (by omega)]
    exact extractLsb'_of_extractLsb' n (by omega) (by omega)

theorem byte_counterBlock_zero (n : BitVec 88) (c : Word) : byte (counterBlock n c) 0 = 0x80 :=
  (BitVec.extractLsb'_append_eq_of_le (xhi := 0x80#8 ++ n) (by decide)).trans BitVec.extractLsb'_append_eq_left

/-- Bytes 1 to 11 of the counter block are those of NONCE. -/
theorem byte_counterBlock_nonce (n : BitVec 88) (c : Word) {i : Nat} (hi : i < 11) :
    byte (counterBlock n c) (1 + i) = n.extractLsb' (8 * (10 - i)) 8 := by
  have hpos : 8 * (15 - (1 + i)) - 32 = 8 * (10 - i) := by omega
  rw [byte, counterBlock, BitVec.extractLsb'_append_eq_of_le (by omega),
    BitVec.extractLsb'_append_eq_of_add_le (by omega), hpos]

/-- Bytes 12 to 15 of the counter block are those of CTR. -/
theorem byte_counterBlock_ctr (n : BitVec 88) (c : Word) {i : Nat} (hi : i < 4) :
    byte (counterBlock n c) (12 + i) = c.extractLsb' (8 * (3 - i)) 8 := by
  have hpos : 15 - (12 + i) = 3 - i := by omega
  rw [byte, counterBlock, BitVec.extractLsb'_append_eq_of_add_le (by omega), hpos]

/-- Settles O21: bytes 1 to 11 of the block and the bytes the bus shows are both those of NONCE. -/
theorem counterBlockLayout : Obligations.CounterBlockLayout := fun n c =>
  ⟨byte_counterBlock_zero n c, fun _ hi => (byte_counterBlock_nonce n c hi).trans (extractLsb'_nonceWord n hi).symm,
    fun _ hi => byte_counterBlock_ctr n c hi⟩

end Sys2Proof.Machine

end

/-! ## The key derivation commands (O9, O10, O32, O33) -/

section

namespace Sys2Proof.Machine

/-! ### The words of the commands without a byte count (R131, R133) -/

theorem takesNoCount_of_bare {i : Instr} (hbare : (opcodeOf i).toNat < 4 ∨ 6 < (opcodeOf i).toNat) :
    takesNoCount (opcodeOf i).toNat i := by
  intro w hop
  obtain ⟨-, -, hcount, -⟩ := decodeChecksInOrder w
  split_ifs with hr hn
  · exact decode_of_rsvd hr
  · exact hcount (not_not.mp hr) (hop ▸ toNat_opcodeOf_lt i) (hop ▸ hbare) hn
  · rw [decode_eq_cmd_iff, nbytesOf_of_bare hbare]
    exact ⟨not_not.mp hr, hop, not_not.mp hn⟩

/-! ### A command with one BCE call, by the answer (R120) -/

theorem State.viaBce_of_ok {s : State} {x y : Block} (k : Block → State) (hans : s.bceAnswers = true)
    (hx : s.bce x = .ok y) : s.viaBce x k = (k y).committed [x] := by
  simp only [State.viaBce, hans, hx]
  rfl

theorem State.viaBce_of_silent {s : State} (x : Block) (k : Block → State) (hans : s.bceAnswers = false) :
    s.viaBce x k = s := by
  simp [State.viaBce, hans]

theorem State.viaBce_of_err {s : State} {x : Block} (k : Block → State) (hans : s.bceAnswers = true)
    (hx : s.bce x = .err) : s.viaBce x k = s.failedWith 7 [x] := by
  simp only [State.viaBce, hans, hx]
  rfl

/-! ### The key that DERIVE_Z and LOAD_Z write (R160, R161, R165) -/

theorem clr127_eq_ofNat (b : Block) : clr127 b = BitVec.ofNat 128 (b.toNat % 2 ^ 127) := by
  rw [← toNat_clr127, BitVec.ofNat_toNat, BitVec.setWidth_eq]

theorem exec_deriveZ_of_ok {s : State} {y : Block} (hans : s.bceAnswers = true) (hy : s.bce keyBlock = .ok y) :
    exec .deriveZ s = .next ((s.loadKey y).committed [keyBlock]) :=
  congrArg Host.Outcome.next (State.viaBce_of_ok _ hans hy)

theorem exec_deriveZ_of_err {s : State} (hans : s.bceAnswers = true) (herr : s.bce keyBlock = .err) :
    exec .deriveZ s = .next (s.failedWith 7 [keyBlock]) :=
  congrArg Host.Outcome.next (State.viaBce_of_err _ hans herr)

theorem exec_deriveZ_of_silent {s : State} (hans : s.bceAnswers = false) : exec .deriveZ s = .next s :=
  congrArg Host.Outcome.next (State.viaBce_of_silent _ _ hans)

/-- Settles O9, by the BCE's answer; clearing bit 127 is reduction modulo 2^127. -/
theorem deriveZWritesKey : Obligations.DeriveZWritesKey := by
  refine ⟨takesNoCount_of_bare (i := .deriveZ) (by decide), fun s hans => ⟨fun y hy => ?_, exec_deriveZ_of_err hans⟩⟩
  rw [← clr127_eq_ofNat]
  exact exec_deriveZ_of_ok hans hy

/-- Settles O10: clearing bit 127 of DATA is reduction modulo 2^127. -/
theorem loadZWritesKey : Obligations.LoadZWritesKey := by
  refine ⟨takesNoCount_of_bare (i := .loadZ) (by decide), fun s => ?_⟩
  rw [← clr127_eq_ofNat]
  rfl

/-- Settles O32: without an error both states load the one answer to the key block. -/
theorem deriveZDependsOnBceOnly : Obligations.DeriveZDependsOnBceOnly := by
  intro s u t v hbce hs hu ht hv hok
  cases hy : s.bce keyBlock with
  | err =>
    cases ht.symm.trans (exec_deriveZ_of_err hs hy)
    cases hok
  | ok y =>
    cases ht.symm.trans (exec_deriveZ_of_ok hs hy)
    cases hv.symm.trans (exec_deriveZ_of_ok hu ((hbce keyBlock).symm.trans hy))
    exact ⟨rfl, rfl⟩

/-! ### The commands with another key in HKEY (R162) -/

/-- The state with another key in HKEY. -/
def State.withKey (s : State) (k : Block) : State := { s with hkey := k }

@[simp] theorem State.withKey_bceAnswers (s : State) (k : Block) : (s.withKey k).bceAnswers = s.bceAnswers := rfl

@[simp] theorem State.withKey_bce (s : State) (k x : Block) : (s.withKey k).bce x = s.bce x := State.bce_congr rfl x

/-- A call of the BCE commutes with a change of HKEY that the assignments commute with. -/
theorem State.viaBce_withKey (s : State) (k x : Block) {f g : Block → State} (hg : ∀ y, g y = (f y).withKey k) :
    (s.withKey k).viaBce x g = (s.viaBce x f).withKey k := by
  simp only [State.viaBce, State.withKey_bceAnswers, State.withKey_bce, hg]
  split
  · split <;> rfl
  · rfl

theorem State.viaBce2_withKey (s : State) (k x1 x2 : Block) {f g : Block → Block → State}
    (hg : ∀ y1 y2, g y1 y2 = (f y1 y2).withKey k) :
    (s.withKey k).viaBce2 x1 x2 g = (s.viaBce2 x1 x2 f).withKey k := by
  simp only [State.viaBce2, State.withKey_bceAnswers, State.withKey_bce, hg]
  split
  · split
    · rfl
    · split <;> rfl
  · rfl

theorem State.judgeTag_withKey (s : State) (k r1 r2 : Block) :
    (s.withKey k).judgeTag r1 r2 = (s.judgeTag r1 r2).withKey k := by
  simp only [State.judgeTag]
  rw [apply_ite (State.withKey · k)]
  rfl

theorem exec_ctrXor_of_passed {n : BitVec 5} {s : State} (h : refusedBy (.ctrXor n) s = none) :
    exec (.ctrXor n) s = .next (s.viaBce (counterBlock s.nonce s.ctr) fun k => s.xorKeystream n k) := by
  simp only [refusedBy, blockLenOk_eq] at h
  split_ifs at h with hn hc
  rw [exec, execCtrXor, if_neg hn, if_neg hc]

/-- A command that neither hashes nor writes HKEY keeps another key there and does the same to everything else. -/
theorem exec_withKey {i : Instr} {s t : State} (k : Block) (hi : opcodeOf i ∉ [1#8, 2#8, 4#8, 5#8, 9#8])
    (h : exec i s = .next t) : exec i (s.withKey k) = .next (t.withKey k) := by
  cases i with
  | nop | msgInit => cases h; rfl
  | ctrXor n =>
    cases hchecks : refusedBy (.ctrXor n) s with
    | some e =>
      cases h.symm.trans (exec_of_refusedBy hchecks)
      exact exec_of_refusedBy (s := s.withKey k) hchecks
    | none =>
      cases h.symm.trans (exec_ctrXor_of_passed hchecks)
      rw [exec_ctrXor_of_passed (s := s.withKey k) hchecks]
      exact congrArg Host.Outcome.next (s.viaBce_withKey k (counterBlock s.nonce s.ctr) fun _ => rfl)
  | tagGen => cases h; exact congrArg Host.Outcome.next (s.viaBce2_withKey k s.tagSum s.maskBlock fun _ _ => rfl)
  | tagCheck =>
    cases h
    exact congrArg Host.Outcome.next (s.viaBce2_withKey k s.tagSum s.maskBlock (s.judgeTag_withKey k))
  | deriveZ | loadZ | hashAad | hashCt | clear => simp [opcodeOf] at hi

/-- DERIVE_Z writes the same key whatever HKEY holds, when the BCE answers `ok`, and else leaves HKEY as it was. -/
theorem exec_deriveZ_withKey {s t : State} (k : Block) (h : exec .deriveZ s = .next t) :
    exec .deriveZ (s.withKey k) =
      .next (t.withKey (if s.bceAnswers = true ∧ t.err = false then t.hkey else k)) := by
  cases hans : s.bceAnswers with
  | false =>
    cases h.symm.trans (exec_deriveZ_of_silent hans)
    exact exec_deriveZ_of_silent hans
  | true =>
    cases hy : s.bce keyBlock with
    | ok y =>
      cases h.symm.trans (exec_deriveZ_of_ok hans hy)
      exact exec_deriveZ_of_ok hans ((s.withKey_bce k _).trans hy)
    | err =>
      cases h.symm.trans (exec_deriveZ_of_err hans hy)
      exact exec_deriveZ_of_err hans ((s.withKey_bce k _).trans hy)

/-- Settles O33: LOAD_Z and CLEAR overwrite HKEY unread, DERIVE_Z by the BCE's answer, and the other commands commute with a
change of HKEY. -/
theorem onlyHashingReadsKey : Obligations.OnlyHashingReadsKey := by
  intro i s t k hi h
  cases i with
  | hashAad | hashCt => simp [opcodeOf] at hi
  | loadZ | clear => cases h; rfl
  | deriveZ =>
    have hkey := exec_deriveZ_withKey k h
    simpa [opcodeOf, State.withKey] using hkey
  | nop | msgInit | ctrXor | tagGen | tagCheck => exact exec_withKey k (by simp [opcodeOf]) h

end Sys2Proof.Machine

end

/-! ## The arithmetic modulo p (O24, O25, O26) -/

section

namespace Sys2Proof.Machine

theorem lt_two_pow_of_canonical {x : Nat} (h : x ≤ modulusP - 1) : x < 2 ^ 127 :=
  h.trans_lt (by decide)

/-- Folding at bit 127 keeps the residue, since 2^127 ≡ 1 modulo p (R181). -/
theorem mersenne_fold_mod (x : Nat) : (x % 2 ^ 127 + x / 2 ^ 127) % modulusP = x % modulusP := by
  unfold modulusP
  omega

/-- The datapath's last two steps give the canonical residue of any block. -/
theorem toNat_condSubP_mersenneFold (b : Block) : (condSubP (mersenneFold b)).toNat = b.toNat % modulusP := by
  have hfold : (mersenneFold b).toNat ≤ 2 ^ 127 := by
    rw [toNat_mersenneFold]
    omega
  rw [toNat_condSubP _ hfold, toNat_mersenneFold, mersenne_fold_mod]

/-- Settles O24: the sum fits in 128 bits, and the fold keeps its residue. -/
theorem addfoldIsResidue : Obligations.AddfoldIsResidue := by
  intro a w ha hw
  have hfits : a.toNat + w.toNat < 2 ^ 128 := by
    have ha := lt_two_pow_of_canonical ha
    omega
  rw [addfold, toNat_condSubP_mersenneFold, BitVec.toNat_add_of_lt hfits]

/-- The product of two blocks fits in 256 bits (R182). -/
theorem toNat_product (a z : Block) : (product a z).toNat = a.toNat * z.toNat := by
  have hlt : a.toNat * z.toNat < 2 ^ 128 * 2 ^ 128 := Nat.mul_lt_mul'' a.isLt z.isLt
  rw [product, BitVec.toNat_mul, BitVec.toNat_setWidth_of_le (by decide), BitVec.toNat_setWidth_of_le (by decide),
    Nat.mod_eq_of_lt (by omega)]

/-- The first fold of a product below 2^254 (R183). -/
theorem toNat_fold_product {x : BitVec 256} (hx : x.toNat < 2 ^ 254) :
    ((x.extractLsb' 0 127).setWidth 128 + (x.extractLsb' 127 127).setWidth 128 : Block).toNat =
      x.toNat % 2 ^ 127 + x.toNat / 2 ^ 127 := by
  have hlow : x.toNat % 2 ^ 127 < 2 ^ 127 := Nat.mod_lt _ (by decide)
  have hhigh : x.toNat / 2 ^ 127 < 2 ^ 127 := by omega
  simp only [BitVec.toNat_add, BitVec.toNat_setWidth, BitVec.extractLsb'_toNat, Nat.shiftRight_eq_div_pow, pow_zero,
    Nat.div_one, Nat.mod_eq_of_lt hhigh]
  omega

/-- Settles O25: the product is below 2^254, and both folds keep its residue. -/
theorem mulmodIsResidue : Obligations.MulmodIsResidue := by
  intro a z ha hz
  have hlt : (product a z).toNat < 2 ^ 254 := by
    have hprod : a.toNat * z.toNat < 2 ^ 127 * 2 ^ 127 := Nat.mul_lt_mul'' (lt_two_pow_of_canonical ha) hz
    rw [toNat_product]
    omega
  rw [mulmod, toNat_condSubP_mersenneFold, toNat_fold_product hlt, mersenne_fold_mod, toNat_product]

/-- Settles O26: the corners with an open operand are residues of 0, of a multiple of p and of `a` itself. -/
theorem mulmodCorners : Obligations.MulmodCorners := by
  refine ⟨fun a ha => ⟨?_, ?_, ?_⟩, fun z hz => ?_, by decide, by decide⟩ <;> apply BitVec.eq_of_toNat_eq
  · rw [mulmodIsResidue a 0 ha (by decide)]
    simp
  · rw [mulmodIsResidue a pBlock ha (by decide)]
    exact Nat.mul_mod_left _ _
  · rw [mulmodIsResidue a 1 ha (by decide)]
    simpa using Nat.mod_eq_of_lt (Nat.lt_of_le_sub_one (by decide) ha)
  · rw [mulmodIsResidue 0 z (by decide) hz]
    simp

end Sys2Proof.Machine

end

/-! ## The universal hash commands (O11, O12, O13, O27) -/

section

namespace Sys2Proof.Machine

/-- Settles O11: MSG_INIT makes no check, and it writes constants only. -/
theorem msgInitStartsMessage : Obligations.MsgInitStartsMessage := by
  refine ⟨takesNoCount_of_bare (i := .msgInit) (by decide), fun _ => rfl, fun s t h => ?_⟩
  cases h
  rfl

/-! ### The words of the commands with a byte count (R131, R133) -/

theorem takesCount_of_fields {op : Nat} {mk : BitVec 5 → Instr} (hop : ∀ n, (opcodeOf (mk n)).toNat = op)
    (hn : ∀ n, nbytesOf (mk n) = n) : takesCount op mk := by
  intro w hw
  split_ifs with hr
  · exact decode_of_rsvd hr
  · rw [decode_eq_cmd_iff, hop, hn, BitVec.toNat_ofNat]
    exact ⟨not_not.mp hr, hw, (Nat.mod_eq_of_lt (Nat.mod_lt _ (by decide))).symm⟩

/-! ### One hash step (R185) -/

theorem toNat_hstep {a w z : Block} (ha : a.toNat ≤ modulusP - 1) (hw : w.toNat < 2 ^ 96) (hz : z.toNat < 2 ^ 127) :
    (hstep a w z).toNat = (a.toNat + w.toNat) * z.toNat % modulusP := by
  have hsum : (addfold a w).toNat ≤ modulusP - 1 := toNat_condSubP_mersenneFold_le _
  rw [hstep, mulmodIsResidue _ _ hsum hz, addfoldIsResidue a w ha hw, Nat.mod_mul_mod]

/-! ### The two streams: HASH_AAD and HASH_CT at once (R195, R202)

The two commands differ in their order rule, in the length they count, and in CTPHASE, which HASH_CT sets. -/

/-- The two inputs of the hash. -/
inductive HashInput where
  | aad
  | ct
deriving DecidableEq

/-- The command that hashes a chunk of the input. -/
def HashInput.cmd : HashInput → BitVec 5 → Instr
  | .aad => .hashAad
  | .ct => .hashCt

/-- The ORDER check of R195 and R203: no more of the input may be hashed. -/
def HashInput.closed : HashInput → State → Bool
  | .aad, s => s.ctphase || s.short
  | .ct, s => s.ctphase && s.short

/-- The assignments of the command that hashes the first n bytes of DATA. -/
def HashInput.assign (k : HashInput) (n : BitVec 5) (s : State) : State :=
  match k with
  | .aad => { s.absorb n with alen := s.alen + n.setWidth 64 }
  | .ct => { s.absorb n with clen := s.clen + n.setWidth 64, ctphase := true }

theorem HashInput.exec_cmd (k : HashInput) (n : BitVec 5) (s : State) :
    exec (k.cmd n) s = .next (
      if !chunkLenOk n then s.fail .badLen
      else if !s.zvalid then s.fail .noKey
      else if k.closed s then s.fail .order
      else (k.assign n s).finish) := by
  cases k <;> rfl

theorem chunkLenOk_iff (n : BitVec 5) : chunkLenOk n = true ↔ 1 ≤ n.toNat ∧ n.toNat ≤ 12 := by
  simp [chunkLenOk]

section
variable {k : HashInput} {n : BitVec 5} {s : State}

theorem HashInput.exec_cmd_of_badLen (hn : n.toNat < 1 ∨ 12 < n.toNat) :
    exec (k.cmd n) s = .next (s.failedWith 3 []) := by
  have hlen : chunkLenOk n = false := by
    rw [Bool.eq_false_iff, ne_eq, chunkLenOk_iff]
    omega
  rw [exec_cmd, hlen]
  rfl

theorem HashInput.exec_cmd_of_noKey (h1 : 1 ≤ n.toNat) (h12 : n.toNat ≤ 12) (hz : s.zvalid = false) :
    exec (k.cmd n) s = .next (s.failedWith 4 []) := by
  rw [exec_cmd, (chunkLenOk_iff n).mpr ⟨h1, h12⟩, hz]
  rfl

theorem HashInput.exec_cmd_of_closed (h1 : 1 ≤ n.toNat) (h12 : n.toNat ≤ 12) (hz : s.zvalid = true)
    (hc : k.closed s = true) : exec (k.cmd n) s = .next (s.failedWith 5 []) := by
  rw [exec_cmd, (chunkLenOk_iff n).mpr ⟨h1, h12⟩, hz, hc]
  rfl

theorem HashInput.exec_cmd_of_open (h1 : 1 ≤ n.toNat) (h12 : n.toNat ≤ 12) (hz : s.zvalid = true)
    (hc : k.closed s = false) : exec (k.cmd n) s = .next ((k.assign n s).committed []) := by
  rw [exec_cmd, (chunkLenOk_iff n).mpr ⟨h1, h12⟩, hz, hc]
  rfl

/-- ACC after a chunk, as a number (R195, R202). -/
theorem HashInput.toNat_acc_assign (h12 : n.toNat ≤ 12) (hacc : s.acc.toNat ≤ modulusP - 1)
    (hkey : s.hkey.toNat < 2 ^ 127) :
    (k.assign n s).acc.toNat = (s.acc.toNat + dataChunkNat s.data n.toNat) * s.hkey.toNat % modulusP := by
  rw [← toNat_chunkWord _ h12, ← toNat_hstep hacc (toNat_chunkWord_lt _ _) hkey]
  cases k <;> rfl

theorem HashInput.acc_assign (h12 : n.toNat ≤ 12) (hacc : s.acc.toNat ≤ modulusP - 1)
    (hkey : s.hkey.toNat < 2 ^ 127) :
    (k.assign n s).acc = BitVec.ofNat 128 ((s.acc.toNat + dataChunkNat s.data n.toNat) * s.hkey.toNat % modulusP) := by
  rw [← k.toNat_acc_assign h12 hacc hkey, BitVec.ofNat_toNat, BitVec.setWidth_eq]

end

/-- Settles O12: the four endings of the hash commands, for associated data. -/
theorem hashAadAbsorbsChunk : Obligations.HashAadAbsorbsChunk := by
  refine ⟨takesCount_of_fields (fun _ => rfl) (fun _ => rfl), fun s n =>
    ⟨HashInput.exec_cmd_of_badLen (k := .aad), HashInput.exec_cmd_of_noKey (k := .aad), fun h1 h12 hz ho => ?_,
      fun h1 h12 hz hct hs hacc hkey => ?_⟩⟩
  · exact HashInput.exec_cmd_of_closed (k := .aad) h1 h12 hz (Bool.or_eq_true_iff.mpr ho)
  · rw [← HashInput.acc_assign (k := .aad) h12 hacc hkey, BitVec.ofNat_toNat]
    exact HashInput.exec_cmd_of_open (k := .aad) h1 h12 hz (by simp [HashInput.closed, hct, hs])

/-- Settles O13: the four endings of the hash commands, for ciphertext. -/
theorem hashCtAbsorbsChunk : Obligations.HashCtAbsorbsChunk := by
  refine ⟨takesCount_of_fields (fun _ => rfl) (fun _ => rfl), fun s n =>
    ⟨HashInput.exec_cmd_of_badLen (k := .ct), HashInput.exec_cmd_of_noKey (k := .ct), fun h1 h12 hz hct hs => ?_,
      fun h1 h12 hz ho hacc hkey => ?_⟩⟩
  · exact HashInput.exec_cmd_of_closed (k := .ct) h1 h12 hz (by simp [HashInput.closed, hct, hs])
  · rw [← HashInput.acc_assign (k := .ct) h12 hacc hkey, BitVec.ofNat_toNat]
    exact HashInput.exec_cmd_of_open (k := .ct) h1 h12 hz (Bool.and_eq_false_iff.mpr ho)

/-! ### A whole message (R186, R205) -/

/-- The first bytes of DATA loaded with a chunk are the chunk's. -/
theorem dataChunkNat_dataOf {c : List Byte} (h : c.length ≤ 16) : dataChunkNat (dataOf c) c.length = chunkNat c 0 := by
  have hbytes : (List.range c.length).map (byte (dataOf c)) = c := by
    refine List.ext_getElem (by simp) fun i _ hi => ?_
    rw [List.getElem_map, List.getElem_range, dataOf, byte_ofBytes _ (hi.trans_le h), List.getD_eq_getElem _ _ hi]
  rw [dataChunkNat, hbytes]

/-- Horner's rule: more coefficients move the sum so far up by a power of z each. -/
theorem polySum_append (z : Nat) (ws vs : List Nat) :
    polySum z (ws ++ vs) = polySum z ws * z ^ vs.length + polySum z vs := by
  induction ws with
  | nil => simp [polySum]
  | cons w ws ih =>
    rw [List.cons_append, polySum, polySum, ih, List.length_append]
    ring

/-- The bytes of an input hashed so far. -/
def HashInput.count : HashInput → State → BitVec 64
  | .aad, s => s.alen
  | .ct, s => s.clen

/-- A state in which a message is being hashed: a key is loaded, the invariants of R71 and R72 hold, and the last command
has not failed. -/
structure State.Hashing (s : State) : Prop where
  zvalid : s.zvalid = true
  acc_le : s.acc.toNat ≤ modulusP - 1
  hkey_lt : s.hkey.toNat < 2 ^ 127
  err : s.err = false

/-- `Hashed ws n s t`: from `s` to `t` the chunk integers `ws` have been hashed, `n k` bytes of each input `k`. -/
structure Hashed (ws : List Nat) (n : HashInput → Nat) (s t : State) : Prop where
  hashing : t.Hashing
  hkey : t.hkey = s.hkey
  acc : t.acc.toNat = (s.acc.toNat * s.hkey.toNat ^ ws.length + polySum s.hkey.toNat ws) % modulusP
  count : ∀ k, k.count t = k.count s + BitVec.ofNat 64 (n k)
  ctphase : n .ct = 0 → t.ctphase = s.ctphase

theorem Hashed.refl {s : State} (hs : s.Hashing) (k : HashInput) : Hashed [] (Pi.single k 0) s s where
  hashing := hs
  hkey := rfl
  acc := by simpa [polySum] using (Nat.mod_eq_of_lt (Nat.lt_of_le_sub_one (by decide) hs.acc_le)).symm
  count := by simp
  ctphase _ := rfl

theorem Hashed.trans {ws vs : List Nat} {m n : HashInput → Nat} {s t u : State} (hst : Hashed ws m s t)
    (htu : Hashed vs n t u) : Hashed (ws ++ vs) (m + n) s u where
  hashing := htu.hashing
  hkey := htu.hkey.trans hst.hkey
  acc := by
    rw [htu.acc, hst.hkey, hst.acc, ← Nat.mod_add_mod, Nat.mod_mul_mod, Nat.mod_add_mod, polySum_append,
      List.length_append]
    congr 1
    ring
  count k := by rw [htu.count, hst.count, BitVec.add_assoc, ← BitVec.ofNat_add, Pi.add_apply]
  ctphase h := by
    obtain ⟨hm, hn⟩ := Nat.add_eq_zero_iff.mp h
    exact (htu.ctphase hn).trans (hst.ctphase hm)

theorem Hashed.of_data {ws : List Nat} {n : HashInput → Nat} {s t : State} {d : Block}
    (h : Hashed ws n { s with data := d } t) : Hashed ws n s t where
  hashing := h.hashing
  hkey := h.hkey
  acc := h.acc
  count
    | .aad => h.count .aad
    | .ct => h.count .ct
  ctphase := h.ctphase

theorem HashInput.hashed_assign {n : BitVec 5} {s : State} (k : HashInput) (hs : s.Hashing) (h1 : 1 ≤ n.toNat)
    (h12 : n.toNat ≤ 12) :
    Hashed [dataChunkNat s.data n.toNat] (Pi.single k n.toNat) s ((k.assign n s).committed []) where
  hashing :=
    { zvalid := by cases k <;> exact hs.zvalid
      acc_le := by cases k <;> exact toNat_hstep_le _ _ _
      hkey_lt := by cases k <;> exact hs.hkey_lt
      err := rfl }
  hkey := by cases k <;> rfl
  acc := by
    refine (k.toNat_acc_assign h12 hs.acc_le hs.hkey_lt).trans (congrArg (· % modulusP) ?_)
    simp [polySum]
    ring
  count j := by cases k <;> cases j <;> simp [HashInput.count, HashInput.assign, State.committed]
  ctphase h := by
    cases k with
    | aad => rfl
    | ct =>
      rw [Pi.single_eq_same] at h
      omega

/-- After a full chunk the input may still grow. -/
theorem HashInput.closed_assign_of_full {k : HashInput} {n : BitVec 5} {s : State} (hn : n.toNat = 12)
    (hc : k.closed s = false) : k.closed ((k.assign n s).committed []) = false := by
  cases k with
  | aad => simpa [HashInput.closed, HashInput.assign, State.committed, hn] using (Bool.or_eq_false_iff.mp hc).1
  | ct => simp [HashInput.closed, HashInput.assign, State.committed, hn]

/-- One chunk, DATA loaded with it (R281). -/
theorem HashInput.exec_chunk {k : HashInput} {s : State} {c : List Byte} (hs : s.Hashing) (h1 : 1 ≤ c.length)
    (h12 : c.length ≤ 12) (hc : k.closed s = false) :
    ∃ t, exec (k.cmd (BitVec.ofNat 5 c.length)) { s with data := dataOf c } = .next t ∧
      Hashed [chunkNat c 0] (Pi.single k c.length) s t ∧ (c.length = 12 → k.closed t = false) := by
  have hn : (BitVec.ofNat 5 c.length).toNat = c.length := by
    rw [BitVec.toNat_ofNat]
    omega
  have hc' : k.closed { s with data := dataOf c } = false := by cases k <;> exact hc
  have hs' : State.Hashing { s with data := dataOf c } := ⟨hs.zvalid, hs.acc_le, hs.hkey_lt, hs.err⟩
  have hstep := k.hashed_assign (n := BitVec.ofNat 5 c.length) hs' (by rwa [hn]) (by rwa [hn])
  rw [hn, dataChunkNat_dataOf (by omega)] at hstep
  exact ⟨_, HashInput.exec_cmd_of_open (by rwa [hn]) (by rwa [hn]) hs.zvalid hc', hstep.of_data,
    fun hfull => HashInput.closed_assign_of_full (hn.trans hfull) hc'⟩

/-- The chunks of a byte string, hashed one after the other: all but the last are full. -/
theorem HashInput.hashStream_chunksOf {k : HashInput} {fuel : Nat} {bs : List Byte} {s : State} (hf : bs.length ≤ fuel)
    (hs : s.Hashing) (hc : bs ≠ [] → k.closed s = false) :
    ∃ t, hashStream k.cmd (chunksOf fuel bs) s = .next t ∧
      Hashed ((chunksOf fuel bs).map fun ch => chunkNat ch 0) (Pi.single k bs.length) s t := by
  induction fuel generalizing bs s with
  | zero =>
    cases List.length_eq_zero_iff.mp (Nat.le_zero.mp hf)
    exact ⟨s, rfl, Hashed.refl hs k⟩
  | succ fuel ih =>
    cases bs with
    | nil => exact ⟨s, rfl, Hashed.refl hs k⟩
    | cons b bs =>
      have hfirst : 1 ≤ ((b :: bs).take 12).length := by simp
      have hrest : ((b :: bs).drop 12).length ≤ fuel := by
        rw [List.length_drop]
        omega
      obtain ⟨t, hexec, hst, hfull⟩ := HashInput.exec_chunk hs hfirst (List.length_take_le _ _)
        (hc (List.cons_ne_nil _ _))
      obtain ⟨u, hstream, htu⟩ := ih hrest hst.hashing fun hne => hfull <| by
        have hlong := mt List.drop_eq_nil_iff.mpr hne
        rw [List.length_take]
        omega
      refine ⟨u, by rw [chunksOf, hashStream, hexec, andThen, hstream], ?_⟩
      have hsu := hst.trans htu
      rwa [← Pi.single_add, ← List.length_append, List.take_append_drop] at hsu

/-- Settles O27: the associated data and then the ciphertext, hashed from the state MSG_INIT leaves. -/
theorem messageHashIsPolynomial : Obligations.MessageHashIsPolynomial := by
  intro s a c hz hkey
  have hinit : (s.startMessage.committed []).Hashing := ⟨hz, Nat.zero_le _, hkey, rfl⟩
  obtain ⟨t, haad, hst⟩ := HashInput.hashStream_chunksOf (k := .aad) (bs := a) le_rfl hinit fun _ => rfl
  have hopen : HashInput.ct.closed t = false := by
    simp [HashInput.closed, hst.ctphase, State.committed]
  obtain ⟨u, hct, htu⟩ := HashInput.hashStream_chunksOf (k := .ct) (bs := c) le_rfl hst.hashing fun _ => hopen
  have hsu := hst.trans htu
  refine ⟨u, ?_, ?_, ?_, ?_, hsu.hashing.err⟩
  · calc hashMessage a c s
        = andThen (hashStream .hashAad (streamChunks a) (s.startMessage.committed []))
            (hashStream .hashCt (streamChunks c)) := rfl
      _ = hashStream .hashCt (streamChunks c) t := congrArg (andThen · _) haad
      _ = .next u := hct
  · rw [hsu.acc, messageHash, List.map_append]
    simp [State.committed, streamChunks]
  · exact (hsu.count .aad).trans (by simp [HashInput.count, State.committed])
  · exact (hsu.count .ct).trans (by simp [HashInput.count, State.committed])

end Sys2Proof.Machine

end

/-! ## The counter-mode command (O14, O29, O30, O31) -/

section

namespace Sys2Proof.Machine

/-! ### The endings of CTR_XOR (R222, R224) -/

theorem blockLenOk_iff (n : BitVec 5) : blockLenOk n = true ↔ 1 ≤ n.toNat ∧ n.toNat ≤ 16 := by
  simp [blockLenOk]

section
variable {n : BitVec 5} {s : State}

theorem exec_ctrXor_of_badLen (hn : n.toNat < 1 ∨ 16 < n.toNat) : exec (.ctrXor n) s = .next (s.failedWith 3 []) := by
  have hlen : blockLenOk n = false := by
    rw [Bool.eq_false_iff, ne_eq, blockLenOk_iff]
    omega
  exact exec_of_refusedBy ((refusedBy_eq_badLen_iff (.ctrXor n) s).mpr ((blockLenOk_eq n).trans hlen))

theorem refusedBy_ctrXor (h1 : 1 ≤ n.toNat) (h16 : n.toNat ≤ 16) :
    refusedBy (.ctrXor n) s = if s.ctr = 0 then some .ctrZero else none := by
  simp [refusedBy, blockLenOk_eq, (blockLenOk_iff n).mpr ⟨h1, h16⟩]

theorem exec_ctrXor_of_ctrZero (h1 : 1 ≤ n.toNat) (h16 : n.toNat ≤ 16) (hc : s.ctr = 0) :
    exec (.ctrXor n) s = .next (s.failedWith 6 []) :=
  exec_of_refusedBy ((refusedBy_ctrXor h1 h16).trans (if_pos hc))

theorem exec_ctrXor_of_err (h1 : 1 ≤ n.toNat) (h16 : n.toNat ≤ 16) (hc : s.ctr ≠ 0) (hans : s.bceAnswers = true)
    (herr : s.bce (counterBlock s.nonce s.ctr) = .err) :
    exec (.ctrXor n) s = .next (s.failedWith 7 [counterBlock s.nonce s.ctr]) :=
  (exec_ctrXor_of_passed ((refusedBy_ctrXor h1 h16).trans (if_neg hc))).trans
    (congrArg Host.Outcome.next (State.viaBce_of_err _ hans herr))

theorem exec_ctrXor_of_ok {k : Block} (h1 : 1 ≤ n.toNat) (h16 : n.toNat ≤ 16) (hc : s.ctr ≠ 0)
    (hans : s.bceAnswers = true) (hk : s.bce (counterBlock s.nonce s.ctr) = .ok k) :
    exec (.ctrXor n) s = .next ((s.xorKeystream n k).committed [counterBlock s.nonce s.ctr]) :=
  (exec_ctrXor_of_passed ((refusedBy_ctrXor h1 h16).trans (if_neg hc))).trans
    (congrArg Host.Outcome.next (State.viaBce_of_ok _ hans hk))

end

/-- Settles O14: the four endings of CTR_XOR, the last one lane by lane. -/
theorem ctrXorAppliesKeystream : Obligations.CtrXorAppliesKeystream := by
  refine ⟨takesCount_of_fields (fun _ => rfl) (fun _ => rfl), fun s n =>
    ⟨exec_ctrXor_of_badLen, exec_ctrXor_of_ctrZero, exec_ctrXor_of_err, fun k h1 h16 hc hans hk =>
      ⟨xorLanes s.data k n.toNat, fun i => byte_xorLanes s.data k n.toNat, ?_⟩⟩⟩
  have hctr : BitVec.ofNat 32 (s.ctr.toNat + 1) = s.ctr + 1 := by simp [BitVec.ofNat_add]
  rw [hctr]
  exact exec_ctrXor_of_ok h1 h16 hc hans hk

/-! ### Symmetry (R227) -/

/-- The lanes of CTR_XOR are their own inverse: (X ⊕ K) ⊕ K = X in each lane. -/
theorem xorLanes_xorLanes (d k : Block) (n : Nat) : xorLanes (xorLanes d k n) k n = d := by
  refine block_ext_bytes fun i hi => ?_
  rw [byte_xorLanes _ _ _ hi, byte_xorLanes _ _ _ hi]
  split
  · rw [BitVec.xor_assoc, BitVec.xor_self, BitVec.xor_zero]
  · rfl

/-- Settles O29: from the same counter both commands get the same keystream block. -/
theorem ctrXorTwiceRestoresData : Obligations.CtrXorTwiceRestoresData := by
  intro s n k h1 h16 hc hans hk
  exact ⟨_, _, exec_ctrXor_of_ok h1 h16 hc hans hk,
    exec_ctrXor_of_ok h1 h16 hc hans ((State.bce_congr rfl _).trans hk), xorLanes_xorLanes s.data k n.toNat⟩

/-! ### The mask block is no keystream block (R221) -/

theorem ctr_eq_of_counterBlock_eq {m n : BitVec 88} {c d : Word} (h : counterBlock m c = counterBlock n d) : c = d := by
  have hlow := congrArg (BitVec.extractLsb' 0 32) h
  rwa [counterBlock, counterBlock, BitVec.extractLsb'_append_eq_right, BitVec.extractLsb'_append_eq_right] at hlow

/-- While the BCE answers, CTR_XOR calls it at most once, on the counter block of a counter other than 0. -/
theorem bceReqs_of_exec_ctrXor {s t : State} {n : BitVec 5} (hans : s.bceAnswers = true)
    (h : exec (.ctrXor n) s = .next t) : t.bceReqs = [] ∨ s.ctr ≠ 0 ∧ t.bceReqs = [counterBlock s.nonce s.ctr] := by
  cases hchecks : refusedBy (.ctrXor n) s with
  | some e =>
    cases h.symm.trans (exec_of_refusedBy hchecks)
    exact .inl rfl
  | none =>
    have hc : s.ctr ≠ 0 := by
      simp only [refusedBy] at hchecks
      split_ifs at hchecks with _ hc
      exact hc
    cases h.symm.trans (exec_ctrXor_of_passed hchecks)
    refine .inr ⟨hc, ?_⟩
    cases hk : s.bce (counterBlock s.nonce s.ctr) with
    | err => rw [State.viaBce_of_err _ hans hk]; rfl
    | ok k => rw [State.viaBce_of_ok _ hans hk]; rfl

/-- Settles O30: the counter block a CTR_XOR sends ends in a counter other than 0. -/
theorem counterZeroNeverKeystream : Obligations.CounterZeroNeverKeystream := by
  intro s t n hans h m hm
  obtain hnone | ⟨hc, hone⟩ := bceReqs_of_exec_ctrXor hans h
  · rw [hnone] at hm
    exact List.not_mem_nil hm
  · rw [hone, List.mem_singleton] at hm
    exact hc (ctr_eq_of_counterBlock_eq hm).symm

/-! ### What depends on CTR (R225) -/

/-- `g` changes only what no BCE call reads and no commit writes. -/
structure State.Unseen (g : State → State) : Prop where
  bceAnswers : ∀ s, (g s).bceAnswers = s.bceAnswers
  bce : ∀ s x, (g s).bce x = s.bce x
  committed : ∀ s reqs, (g s).committed reqs = g (s.committed reqs)
  failedWith : ∀ s code reqs, (g s).failedWith code reqs = g (s.failedWith code reqs)

/-- A command's BCE calls commute with an unseen change that its assignments commute with. -/
theorem State.Unseen.viaBce {g : State → State} (hg : State.Unseen g) (s : State) (x : Block) {f f' : Block → State}
    (hf : ∀ y, f' y = g (f y)) : (g s).viaBce x f' = g (s.viaBce x f) := by
  simp only [State.viaBce, hg.bceAnswers, hg.bce, hf]
  split
  · split
    · exact hg.failedWith s 7 [x]
    · exact hg.committed _ [x]
  · rfl

theorem State.Unseen.viaBce2 {g : State → State} (hg : State.Unseen g) (s : State) (x1 x2 : Block)
    {f f' : Block → Block → State} (hf : ∀ y1 y2, f' y1 y2 = g (f y1 y2)) :
    (g s).viaBce2 x1 x2 f' = g (s.viaBce2 x1 x2 f) := by
  simp only [State.viaBce2, hg.bceAnswers, hg.bce, hf]
  split
  · split
    · exact hg.failedWith s 7 [x1]
    · split
      · exact hg.failedWith s 7 [x1, x2]
      · exact hg.committed _ [x1, x2]
  · rfl

/-- The state with another counter in CTR. -/
def State.withCtr (c : Word) (s : State) : State := { s with ctr := c }

theorem State.unseen_withCtr (c : Word) : State.Unseen (State.withCtr c) where
  bceAnswers _ := rfl
  bce _ := State.bce_congr rfl
  committed _ _ := rfl
  failedWith _ _ _ := rfl

theorem State.judgeTag_withCtr (s : State) (c : Word) (r1 r2 : Block) :
    (s.withCtr c).judgeTag r1 r2 = (s.judgeTag r1 r2).withCtr c := by
  simp only [State.judgeTag]
  rw [apply_ite (State.withCtr c)]
  rfl

theorem HashInput.exec_cmd_withCtr {k : HashInput} {n : BitVec 5} {s t : State} (c : Word)
    (h : exec (k.cmd n) s = .next t) : exec (k.cmd n) (s.withCtr c) = .next (t.withCtr c) := by
  cases h.symm.trans (k.exec_cmd n s)
  rw [HashInput.exec_cmd, apply_ite (State.withCtr c), apply_ite (State.withCtr c), apply_ite (State.withCtr c)]
  cases k <;> rfl

/-- A command that does not write CTR keeps another counter there and does the same to everything else. -/
theorem exec_withCtr {i : Instr} {s t : State} (c : Word) (hi : opcodeOf i ∉ [3#8, 6#8, 9#8])
    (h : exec i s = .next t) : exec i (s.withCtr c) = .next (t.withCtr c) := by
  have hc := State.unseen_withCtr c
  cases i with
  | nop | loadZ => cases h; rfl
  | hashAad n => exact HashInput.exec_cmd_withCtr (k := .aad) c h
  | hashCt n => exact HashInput.exec_cmd_withCtr (k := .ct) c h
  | deriveZ => cases h; exact congrArg Host.Outcome.next (hc.viaBce s keyBlock fun _ => rfl)
  | tagGen => cases h; exact congrArg Host.Outcome.next (hc.viaBce2 s s.tagSum s.maskBlock fun _ _ => rfl)
  | tagCheck =>
    cases h
    exact congrArg Host.Outcome.next (hc.viaBce2 s s.tagSum s.maskBlock (s.judgeTag_withCtr c))
  | msgInit | ctrXor | clear => simp [opcodeOf] at hi

/-- The bus shows CTR at its own offset only. -/
theorem State.regRead_withCtr (s : State) (c : Word) {off : BitVec 12} (hoff : off ≠ 0x02C) :
    (s.withCtr c).regRead off = s.regRead off := by
  refine State.regRead_congr fun r hr => ?_
  cases r with
  | ctr => exact absurd hr hoff
  | _ => rfl

/-- At the last counter value CTR_XOR commits as ever, and CTR wraps to 0. -/
theorem exec_ctrXor_of_last {n : BitVec 5} {s : State} {k : Block} (h1 : 1 ≤ n.toNat) (h16 : n.toNat ≤ 16)
    (hc : s.ctr = 0xFFFFFFFF) (hans : s.bceAnswers = true) (hk : s.bce (counterBlock s.nonce s.ctr) = .ok k) :
    exec (.ctrXor n) s = .next (State.committed
      { s with data := xorLanes s.data k n.toNat, ctr := 0 } [counterBlock s.nonce s.ctr]) := by
  have hne : s.ctr ≠ 0 := by rw [hc]; decide
  have hwrap : s.ctr + 1 = 0 := by rw [hc]; decide
  rw [exec_ctrXor_of_ok h1 h16 hne hans hk, State.xorKeystream, hwrap]

/-- Settles O31: 0xFFFFFFFF + 1 = 0, which the next CTR_XOR refuses; every other command commutes with a change of CTR or
overwrites CTR unread. -/
theorem counterWrapsThenRefuses : Obligations.CounterWrapsThenRefuses := by
  refine ⟨fun s n k h1 h16 hc hans hk => ?_, fun s c => ⟨rfl, fun off => s.regRead_withCtr c⟩, fun i s t c hi h => ?_⟩
  · exact ⟨_, _, fun i => byte_xorLanes s.data k n.toNat, rfl, exec_ctrXor_of_last h1 h16 hc hans hk,
      State.regRead_offset _ .ctr, fun m hm1 hm16 => exec_ctrXor_of_ctrZero hm1 hm16 rfl⟩
  · cases i with
    | ctrXor => exact absurd rfl hi
    | msgInit | clear => cases h; rfl
    | nop | deriveZ | loadZ | hashAad | hashCt | tagGen | tagCheck => exact exec_withCtr c (by simp [opcodeOf]) h

end Sys2Proof.Machine

end

/-! ## The tag commands (O15, O16, O23, O28, O35) -/

section

namespace Sys2Proof.Machine

/-! ### The sum the first call encrypts (R240, R241) -/

theorem State.toNat_tagSum (s : State) :
    s.tagSum.toNat = (s.acc.toNat + (s.alen.toNat * 2 ^ 64 + s.clen.toNat)) % 2 ^ 128 := by
  rw [State.tagSum, BitVec.toNat_add, toNat_lengthField]

theorem State.tagSum_eq_ofNat (s : State) :
    s.tagSum = BitVec.ofNat 128 (s.acc.toNat + (s.alen.toNat * 2 ^ 64 + s.clen.toNat)) :=
  BitVec.eq_of_toNat_eq (s.toNat_tagSum.trans (BitVec.toNat_ofNat _ _).symm)

/-- Settles O23: within the bounds of R241 both summands are below 2^127, so the sum does not wrap. -/
theorem tagSumWraps : Obligations.TagSumWraps := by
  refine ⟨State.toNat_tagSum, fun s hacc halen => ?_, fun s hacc halen hclen => ?_⟩
  · have hacc := lt_two_pow_of_canonical hacc
    have hclen := s.clen.isLt
    rw [State.toNat_tagSum, Nat.mod_eq_of_lt (by omega)]
  · rw [State.tagSum, hacc, halen, hclen]
    decide

/-! ### A command with two BCE calls, by the answers (R120) -/

section
variable {s : State} {x1 x2 : Block} (k : Block → Block → State) (hans : s.bceAnswers = true)
include hans

theorem State.viaBce2_of_err (h1 : s.bce x1 = .err) : s.viaBce2 x1 x2 k = s.failedWith 7 [x1] := by
  simp only [State.viaBce2, hans, h1]
  rfl

theorem State.viaBce2_of_ok_err {r1 : Block} (h1 : s.bce x1 = .ok r1) (h2 : s.bce x2 = .err) :
    s.viaBce2 x1 x2 k = s.failedWith 7 [x1, x2] := by
  simp only [State.viaBce2, hans, h1, h2]
  rfl

theorem State.viaBce2_of_ok {r1 r2 : Block} (h1 : s.bce x1 = .ok r1) (h2 : s.bce x2 = .ok r2) :
    s.viaBce2 x1 x2 k = (k r1 r2).committed [x1, x2] := by
  simp only [State.viaBce2, hans, h1, h2]
  rfl

end

/-! ### TAG_GEN (R245) -/

theorem exec_tagGen (s : State) : exec .tagGen s = .next (s.viaBce2 s.tagSum s.maskBlock s.putTag) := rfl

/-- Settles O15: the three endings of a command with two BCE calls, the first of them on the sum. -/
theorem tagGenComputesTag : Obligations.TagGenComputesTag := by
  refine ⟨takesNoCount_of_bare (i := .tagGen) (by decide), fun s hans => ?_⟩
  rw [Nat.add_assoc, ← s.tagSum_eq_ofNat, ← State.maskBlock, exec_tagGen]
  exact ⟨fun h1 => congrArg _ (State.viaBce2_of_err _ hans h1),
    fun r1 h1 h2 => congrArg _ (State.viaBce2_of_ok_err _ hans h1 h2),
    fun r1 r2 h1 h2 => congrArg _ (State.viaBce2_of_ok _ hans h1 h2)⟩

/-! ### TAG_CHECK (R250, R252, R254) -/

theorem exec_tagCheck (s : State) : exec .tagCheck s = .next (s.viaBce2 s.tagSum s.maskBlock s.judgeTag) := rfl

theorem State.judgeTag_of_eq {s : State} {r1 r2 : Block} (h : r1 ^^^ r2 = s.tagin) :
    s.judgeTag r1 r2 = { s.putTag r1 r2 with authOk := true } :=
  if_pos ((tagDiff_eq_zero _ _).mpr h)

theorem State.judgeTag_of_ne {s : State} {r1 r2 : Block} (h : r1 ^^^ r2 ≠ s.tagin) :
    s.judgeTag r1 r2 = { s.putTag r1 r2 with authFail := true, data := 0 } :=
  if_neg (mt (tagDiff_eq_zero _ _).mp h)

/-- Settles O16: the endings of TAG_GEN, where the last one judges the tag by equality with TAGIN. -/
theorem tagCheckJudgesTag : Obligations.TagCheckJudgesTag := by
  refine ⟨takesNoCount_of_bare (i := .tagCheck) (by decide), fun s hans => ?_⟩
  rw [Nat.add_assoc, ← s.tagSum_eq_ofNat, ← State.maskBlock, exec_tagCheck]
  refine ⟨fun h1 => congrArg _ (State.viaBce2_of_err _ hans h1),
    fun r1 h1 h2 => congrArg _ (State.viaBce2_of_ok_err _ hans h1 h2), fun r1 r2 h1 h2 heq => ?_,
    fun r1 r2 h1 h2 hne => ?_⟩
  · rw [State.viaBce2_of_ok _ hans h1 h2, State.judgeTag_of_eq heq]
    rfl
  · rw [State.viaBce2_of_ok _ hans h1 h2, State.judgeTag_of_ne hne]
    rfl

/-- The outcome of a tag check: the tag and the verdict, which TAGIN alone decides. -/
theorem State.judgeTag_outcome (s : State) (r1 r2 : Block) :
    (s.judgeTag r1 r2).tag = r1 ^^^ r2 ∧ (s.judgeTag r1 r2).authOk = decide (r1 ^^^ r2 = s.tagin) ∧
      (s.judgeTag r1 r2).authFail = decide (r1 ^^^ r2 ≠ s.tagin) := by
  by_cases h : r1 ^^^ r2 = s.tagin
  · simp [State.judgeTag_of_eq h, h]
  · simp [State.judgeTag_of_ne h, h]

/-- Settles O35: a check without an error has both its answers, and the other check gets the same two. -/
theorem tagCheckOutcomeIsFinal : Obligations.TagCheckOutcomeIsFinal := by
  intro s u t hs hu hbce hacc halen hclen hnonce htagin ht hok
  have hsum : u.tagSum = s.tagSum := by rw [State.tagSum, State.tagSum, hacc, halen, hclen]
  have hmask : u.maskBlock = s.maskBlock := by rw [State.maskBlock, State.maskBlock, hnonce]
  rw [exec_tagCheck, Host.Outcome.next.injEq] at ht
  obtain ⟨hsilent, -⟩ | ⟨-, -, hfail⟩ | ⟨-, -, -, hfail⟩ | ⟨-, r1, r2, h1, h2, hdone⟩ :=
    s.viaBce2_cases s.tagSum s.maskBlock s.judgeTag
  · cases hs.symm.trans hsilent
  · cases ht.symm.trans hfail
    cases hok
  · cases ht.symm.trans hfail
    cases hok
  · cases ht.symm.trans hdone
    refine ⟨(u.judgeTag r1 r2).committed [u.tagSum, u.maskBlock], congrArg _ (State.viaBce2_of_ok _ hu ?_ ?_), rfl, ?_⟩
    · rw [hsum, hbce, h1]
    · rw [hmask, hbce, h2]
    · obtain ⟨htag, hauthOk, hauthFail⟩ := s.judgeTag_outcome r1 r2
      obtain ⟨htag', hauthOk', hauthFail'⟩ := u.judgeTag_outcome r1 r2
      rw [htagin] at hauthOk' hauthFail'
      exact ⟨htag'.trans htag.symm, hauthOk'.trans hauthOk.symm, hauthFail'.trans hauthFail.symm⟩

/-! ### The tag of a whole message (R244)

Hashing leaves what the mask of the tag is made from: the nonce and the BCE. -/

theorem andThen_eq_next_iff {o : Host.Outcome State Fault Refusal} {f : State → Host.Outcome State Fault Refusal}
    {t : State} : andThen o f = .next t ↔ ∃ u, o = .next u ∧ f u = .next t := by
  cases o <;> simp [andThen]

/-- What the BCE call on the mask block depends on. -/
def State.maskInputs (s : State) : BitVec 88 × Bool × List (Block × BceAnswer) :=
  (s.nonce, s.bceAnswers, s.bceTable)

theorem exec_keeps_maskInputs {i : Instr} {s t : State} (hi : opcodeOf i ≠ 9#8) (h : exec i s = .next t) :
    t.maskInputs = s.maskInputs := by
  obtain ⟨-, -, -, -, -, -, -, hnonce, -, -, -, -, -, hans, htable, -⟩ := commandsWriteOnlyTheirRow i s t h
  rw [State.maskInputs, State.maskInputs, (hnonce hi).1, hans, htable]

theorem hashStream_keeps_maskInputs {mk : BitVec 5 → Instr} (hmk : ∀ n, opcodeOf (mk n) ≠ 9#8) {cs : List (List Byte)}
    {s t : State} (h : hashStream mk cs s = .next t) : t.maskInputs = s.maskInputs := by
  induction cs generalizing s with
  | nil => cases h; rfl
  | cons c cs ih =>
    obtain ⟨u, hchunk, hrest⟩ := andThen_eq_next_iff.mp h
    have hkeep := exec_keeps_maskInputs (hmk _) hchunk
    exact (ih hrest).trans hkeep

theorem hashMessage_keeps_maskInputs {a c : List Byte} {s t : State} (h : hashMessage a c s = .next t) :
    t.maskInputs = s.maskInputs := by
  obtain ⟨u, hinit, h⟩ := andThen_eq_next_iff.mp h
  obtain ⟨v, haad, hct⟩ := andThen_eq_next_iff.mp h
  calc t.maskInputs = v.maskInputs := hashStream_keeps_maskInputs (by decide) hct
    _ = u.maskInputs := hashStream_keeps_maskInputs (by decide) haad
    _ = s.maskInputs := exec_keeps_maskInputs (by decide) hinit

/-- Settles O28: after the hashing the two calls of TAG_GEN are on the hash plus the length field and on the mask block. -/
theorem messageTagIsSourceTag : Obligations.MessageTagIsSourceTag := by
  intro s a c y r1 r2 hans ha hc hy h1 h2
  obtain ⟨t, hhash, hacc, halen, hclen, -⟩ :=
    messageHashIsPolynomial ((s.loadKey y).committed [keyBlock]) a c rfl (toNat_clr127_lt y)
  obtain ⟨hnonce, htans, htable⟩ : t.nonce = s.nonce ∧ t.bceAnswers = s.bceAnswers ∧ t.bceTable = s.bceTable := by
    simpa [State.maskInputs, State.committed] using hashMessage_keeps_maskInputs hhash
  have hsum : t.tagSum =
      BitVec.ofNat 128 (messageHash (y.toNat % 2 ^ 127) a c + (a.length * 2 ^ 64 + c.length)) := by
    rw [State.tagSum_eq_ofNat, hacc, halen, hclen, BitVec.toNat_ofNat, BitVec.toNat_ofNat, Nat.mod_eq_of_lt ha,
      Nat.mod_eq_of_lt hc, ← toNat_clr127]
    rfl
  have hcall1 : t.bce t.tagSum = .ok r1 := by rw [hsum, State.bce_congr htable, h1]
  have hcall2 : t.bce t.maskBlock = .ok r2 := by rw [State.maskBlock, hnonce, State.bce_congr htable, h2]
  refine ⟨(t.putTag r1 r2).committed [t.tagSum, t.maskBlock], ?_, rfl, rfl, rfl⟩
  rw [exec_deriveZ_of_ok hans hy, andThen, hhash, andThen, exec_tagGen,
    State.viaBce2_of_ok _ (htans.trans hans) hcall1 hcall2]

end Sys2Proof.Machine

end

/-! ## The control commands (O8, O17) -/

section

namespace Sys2Proof.Machine

/-! ### NOP (R270) -/

theorem exec_nop (s : State) : exec .nop s = .next s.finish := rfl

/-- Settles O8: NOP commits the state it finds. -/
theorem nopOnlyCommits : Obligations.NopOnlyCommits := by
  refine ⟨takesNoCount_of_bare (i := .nop) (by decide), fun s => ?_⟩
  rw [exec_nop, State.finish_eq_committed]

/-! ### CLEAR (R273) -/

theorem exec_clear (s : State) : exec .clear s = .next s.erase.finish := rfl

theorem zvalid_of_exec_clear {s t : State} (h : exec .clear s = .next t) : t.zvalid = false := by
  cases h.symm.trans (exec_clear s)
  rw [State.finish_zvalid, State.erase_zvalid]

/-- Settles O17: CLEAR commits the erased state, whose ZVALID = 0 is the check both hash commands then fail. -/
theorem clearErases : Obligations.ClearErases := by
  refine ⟨takesNoCount_of_bare (i := .clear) (by decide), fun s => ?_, fun s t n h h1 h12 => ?_⟩
  · rw [exec_clear, State.finish_eq_committed, State.erase]
  · have hz : t.zvalid = false := zvalid_of_exec_clear h
    exact ⟨HashInput.exec_cmd_of_noKey (k := .aad) h1 h12 hz, HashInput.exec_cmd_of_noKey (k := .ct) h1 h12 hz⟩

end Sys2Proof.Machine

end

/-! ## Errors, issue and commit (O7, O36, O37, O38, O59) -/

section

namespace Sys2Proof.Machine

/-! ### Every agent's move has a next state (R30, R366) -/

theorem exists_exec_eq_next (i : Instr) (s : State) : ∃ t, exec i s = .next t := by
  cases i <;> exact ⟨_, rfl⟩

theorem exists_coreTurn_eq_next (s : State) : ∃ t, coreTurn s = .next t := by
  obtain ⟨-, hc⟩ | ⟨-, -, i, -, hc⟩ | ⟨-, -, e, -, hc⟩ := coreTurn_cases s <;> rw [hc]
  · exact ⟨s, rfl⟩
  · exact exists_exec_eq_next i s
  · exact ⟨_, rfl⟩

theorem exists_takeInput_eq_next (e : Input) (s : State) : ∃ t, takeInput e s = .next t := by
  cases e with
  | core => exact exists_coreTurn_eq_next s
  | _ => exact ⟨_, rfl⟩

/-- Settles O59: a step is an event, and every event has a next state. -/
theorem stepNeverStops : Obligations.StepNeverStops := by
  intro s
  rw [step_eq_takeInput]
  exact exists_takeInput_eq_next _ _

/-! ### The complete step while the BCE answers (R303, R306) -/

/-- How the complete step ends when it is enabled and the BCE answers: with an error, or with the assignments of a
command. -/
inductive TurnCommits (s : State) : State → Prop where
  | fails (e : CmdError) (reqs : List Block) : TurnCommits s (s.failedWith e.code reqs)
  | commits {i : Instr} {u : State} (ha : Assigns i s u) : TurnCommits s (u.committed (bceCalls i s))

theorem turnCommits_of_coreTurn {s t : State} (hr : s.rstn = true) (hb : s.busy = true) (hans : s.bceAnswers = true)
    (h : coreTurn s = .next t) : TurnCommits s t := by
  cases hd : decode s.lcmd with
  | bad e =>
    cases (coreTurn_of_bad hr hb hd).symm.trans h
    exact .fails e []
  | cmd i =>
    cases commandEnds_of_exec ((coreTurn_of_cmd hr hb hd).symm.trans h) with
    | waits hoff => exact absurd (hans.symm.trans hoff) Bool.noConfusion
    | fails e reqs => exact .fails e reqs
    | commits ha => exact .commits ha

/-- No command assigns ERRI: only the commit of an error writes it (R303). -/
theorem Assigns.erri_eq {i : Instr} {s u : State} (ha : Assigns i s u) : u.erri = s.erri := by
  cases ha <;> rfl

/-- Settles O36: with ERR set, the complete step has ended with the error commit. -/
theorem errorsArePrecise : Obligations.ErrorsArePrecise := by
  intro s t hr hb hans h herr
  cases turnCommits_of_coreTurn hr hb hans h with
  | fails e reqs =>
    obtain ⟨hle, hne⟩ := code_le_and_ne_zero e
    have hpos : e.code.toNat ≠ 0 := fun h0 => hne (BitVec.eq_of_toNat_eq h0)
    exact ⟨rfl, Nat.one_le_iff_ne_zero.mpr hpos, hle⟩
  | commits => cases herr

/-- Settles O37: both ends of the complete step clear BUSY and set DONE. -/
theorem commitEndsBusy : Obligations.CommitEndsBusy := by
  refine ⟨fun s hr hb hans => ?_, fun s hb => by simp [coreTurn, hb]⟩
  obtain ⟨t, h⟩ := exists_coreTurn_eq_next s
  refine ⟨t, h, ?_⟩
  cases turnCommits_of_coreTurn hr hb hans h with
  | fails => exact ⟨rfl, rfl, nofun, fun _ => rfl⟩
  | commits ha => exact ⟨rfl, rfl, fun _ => ⟨rfl, ha.erri_eq⟩, nofun⟩

/-! ### The issue (R305) -/

/-- Settles O38: CMD is writable, and locked while BUSY = 1. -/
theorem issueLatchesCommand : Obligations.IssueLatchesCommand := by
  refine ⟨fun s v hb => ?_, fun s v hb => ?_⟩
  · have haccepted : s.writeRefused .cmd 0b1111 = false := by simp [State.writeRefused, Reg.readOnly, hb]
    exact State.regWrite_offset (r := .cmd) v haccepted
  · obtain ⟨-, hrefused, -⟩ := accessRefusedExactly s 0x008 v 0b1111
    exact hrefused (.inr (.inr (.inr ⟨hb, rfl⟩)))

/-! ### The order of the checks (R302) -/

/-- Checks 3 to 6 of R302 in their order, read from the command's OP and NBYTES. -/
theorem refusedBy_eq_ite (i : Instr) (s : State) :
    refusedBy i s =
      if lengthInRange (opcodeOf i).toNat (nbytesOf i).toNat = false then some .badLen
      else if ((opcodeOf i).toNat = 4 ∨ (opcodeOf i).toNat = 5) ∧ s.zvalid = false then some .noKey
      else if ((opcodeOf i).toNat = 4 ∧ (s.ctphase = true ∨ s.short = true)) ∨
          ((opcodeOf i).toNat = 5 ∧ s.ctphase = true ∧ s.short = true) then some .order
      else if (opcodeOf i).toNat = 6 ∧ s.ctr = 0 then some .ctrZero
      else none := by
  cases i with
  | hashAad n | hashCt n | ctrXor n => simp [refusedBy, opcodeOf, nbytesOf]
  | _ => rfl

/-- A command that passes its checks fails exactly when a BCE call answers `err`, with BCE_FAIL (R302 check 7). -/
theorem err_iff_bce_err_of_exec {i : Instr} {s t : State} (hpass : refusedBy i s = none) (hans : s.bceAnswers = true)
    (h : exec i s = .next t) :
    (t.err = true ↔ ∃ x ∈ bceCalls i s, s.bce x = .err) ∧ (t.err = true → t.errcode = 7) := by
  obtain ⟨e, href, -⟩ | ⟨-, hnone, u, -, hx⟩ | ⟨-, -, ⟨hoff, -⟩ | ⟨-, pre, x, post, hcalls, hbce, -, hx⟩ |
      ⟨-, hok, u, -, hx⟩⟩ := exec_cases i s
  · cases hpass.symm.trans href
  · cases hx.symm.trans h
    exact ⟨iff_of_false nofun (by simp [hnone]), nofun⟩
  · exact absurd (hans.symm.trans hoff) Bool.noConfusion
  · cases hx.symm.trans h
    exact ⟨iff_of_true rfl ⟨x, by simp [hcalls], hbce⟩, fun _ => rfl⟩
  · cases hx.symm.trans h
    refine ⟨iff_of_false nofun ?_, nofun⟩
    rintro ⟨x, hmem, herr⟩
    obtain ⟨y, hy⟩ := hok x hmem
    cases herr.symm.trans hy

/-- Settles O7: the decoder makes checks 1 and 2 and check 3 of the commands without a byte count, the command makes the
others. -/
theorem errorCheckOrder : Obligations.ErrorCheckOrder := by
  intro s hr hb
  have h := decode_decodesTo s.lcmd
  generalize hd : decode s.lcmd = d at h
  cases h with
  | rsvdSet hnz =>
    rw [if_pos hnz]
    exact coreTurn_of_bad hr hb hd
  | opReserved hz hop =>
    rw [if_neg (not_not.mpr hz), if_pos hop]
    exact coreTurn_of_bad hr hb hd
  | countGiven hz hop hbare hn =>
    rw [if_neg (not_not.mpr hz), if_neg hop.not_ge, if_pos (lengthInRange_of_bare hbare hn)]
    exact coreTurn_of_bad hr hb hd
  | @command i hz hop hn =>
    rw [if_neg (not_not.mpr hz), ← hop, ← hn, if_neg (toNat_opcodeOf_lt i).not_ge, coreTurn_of_cmd hr hb hd]
    have href := refusedBy_eq_ite i s
    split_ifs at href ⊢
    -- checks 3 to 6, then a command that passes them all
    iterate 4 exact exec_of_refusedBy href
    obtain ⟨t, ht⟩ := exists_exec_eq_next i s
    exact ⟨i, t, rfl, ht, fun hans => err_iff_bce_err_of_exec href hans ht⟩

end Sys2Proof.Machine

end

/-! ## Reset and the wait for the BCE (O18, O51, O58) -/

section

namespace Sys2Proof.Machine

/-! ### CLEAR beside reset (R353) -/

/-- Settles O18: the values CLEAR and its commit write are those of reset, but for DONE. -/
theorem clearGivesResetState : Obligations.ClearGivesResetState := by
  obtain ⟨-, hclear, -⟩ := clearErases
  exact hclear

/-! ### While rst_n is low (R350) -/

theorem coreTurn_of_held {s : State} (hr : s.rstn = false) : coreTurn s = .next s := by
  simp [coreTurn, hr]

theorem State.hostRead_of_held {s : State} (off : BitVec 12) (hr : s.rstn = false) :
    s.hostRead off = { s with resp := .notReady } := by
  simp [State.hostRead, hr]

theorem State.hostWrite_of_held {s : State} (off : BitVec 12) (v : Word) (strb : BitVec 4) (hr : s.rstn = false) :
    s.hostWrite off v strb = { s with resp := .notReady } := by
  simp [State.hostWrite, hr]

/-- Settles O51: the fall of rst_n loads the reset values over any state, and neither the core nor the host moves a block held
in reset. -/
theorem resetAbandonsCommand : Obligations.ResetAbandonsCommand := by
  refine ⟨fun s => rfl, fun s hr => ⟨coreTurn_of_held hr, fun off => ?_, fun off v strb => ?_, rfl⟩⟩
  · rw [takeInput, State.hostRead_of_held off hr]
  · rw [takeInput, State.hostWrite_of_held off v strb hr]

/-! ### Waiting for the BCE (R366) -/

/-- The wait reads no interrupt register and no response of the port. -/
theorem State.AwaitsBce.with_interrupts {s : State} (h : s.AwaitsBce) (doneIe errIe done erri : Bool) (resp : BusResp) :
    { s with doneIe := doneIe, errIe := errIe, done := done, erri := erri, resp := resp }.AwaitsBce :=
  h

/-- The core's turn does not end the wait. -/
theorem State.AwaitsBce.coreTurn_eq {s : State} (h : s.AwaitsBce) : coreTurn s = .next s := by
  obtain ⟨hr, hb, hoff, i, hd, hpass, hcalls⟩ := h
  rw [coreTurn_of_cmd hr hb hd]
  obtain ⟨e, href, -⟩ | ⟨-, hnone, -⟩ | ⟨-, -, ⟨-, hwait⟩ | ⟨hans, -⟩ | ⟨hans, -⟩⟩ := exec_cases i s
  · cases hpass.symm.trans href
  · exact absurd hnone hcalls
  · exact hwait
  · cases hoff.symm.trans hans
  · cases hoff.symm.trans hans

/-- A host write during the wait is refused, or accepted at INTEN or INTSTAT (R104, R105). -/
theorem State.AwaitsBce.hostWrite {s : State} (h : s.AwaitsBce) (off : BitVec 12) (v : Word) (strb : BitVec 4) :
    (s.hostWrite off v strb).AwaitsBce := by
  have ⟨hr, hb, _⟩ := h
  rw [State.hostWrite, if_pos hr]
  obtain hw | ⟨r, -, hacc, hw⟩ := s.regWrite_cases off v strb <;> rw [hw]
  · exact h.with_interrupts _ _ _ _ _
  · obtain rfl | rfl := State.eq_inten_or_intstat_of_busy hb hacc <;> exact h.with_interrupts _ _ _ _ _

/-- Settles O58: the commit is O37's; in the wait the core stands still, and no access reaches what the wait reads. -/
theorem progressOrAwaitBce : Obligations.ProgressOrAwaitBce := by
  refine ⟨fun s hr hb hans hin => ?_, fun e s t h hrst hbce ht => ?_⟩
  · obtain ⟨hcommits, -⟩ := commitEndsBusy
    obtain ⟨t, ht, hbusy, hdone, -⟩ := hcommits s hr hb hans
    exact ⟨t, (step_of_no_input hin).trans ht, hbusy, hdone⟩
  · have ⟨hr, hwait⟩ := h
    cases e with
    | read off =>
      cases (takeInput_read off hr).symm.trans ht
      exact h.with_interrupts _ _ _ _ _
    | write off v strb =>
      cases ht
      exact h.hostWrite off v strb
    | core =>
      cases h.coreTurn_eq.symm.trans ht
      exact h
    | rst level =>
      cases level
      · exact absurd rfl hrst
      · cases ht
        exact ⟨rfl, hwait⟩
    | bce answers => exact absurd rfl (hbce answers)

end Sys2Proof.Machine

end
